-- ==== Sys2Proof/Word.lean ====
section
/-! DEFINITION. The words of the part: bytes, the 32-bit cell clock, and a vector of fixed length held as a list.

Quantities that the spec reads as numbers (weights, temperatures, counts, times in ms) are `Nat` or `Int`; only bytes on a
link, the cell clock and a sample's 16 bits are bit vectors. -/

namespace Sys2Proof

/-- One byte of a link (R134, R157). -/
abbrev Byte := BitVec 8

/-- A value of the cell clock: milliseconds since the last reset, modulo 2^32 (R170). -/
abbrev Clock := BitVec 32

/-- The elapsed time from `start` to `now` in ms, a difference taken modulo 2^32 (R170). -/
def elapsed (now start : Clock) : Nat := (now - start).toNat

/-- A fixed number of like things (8 cavities, 12 zones, 16 rates), as a list with its length. -/
structure Vec (α : Type) (n : Nat) where
  toList : List α
  size : toList.length = n
  deriving DecidableEq, Repr

namespace Vec

variable {α β : Type} {n : Nat}

/-- The entry at index `i`. -/
def get (v : Vec α n) (i : Fin n) : α := v.toList.get (Fin.cast v.size.symm i)

/-- The vector with entry `i` replaced. -/
def set (v : Vec α n) (i : Fin n) (a : α) : Vec α n :=
  ⟨v.toList.set i.val a, by rw [List.length_set]; exact v.size⟩

/-- The vector with entry `i` changed by `f`. -/
def modify (v : Vec α n) (i : Fin n) (f : α → α) : Vec α n := v.set i (f (v.get i))

/-- Every entry changed by `f`. -/
def map (f : α → β) (v : Vec α n) : Vec β n := ⟨v.toList.map f, by rw [List.length_map]; exact v.size⟩

/-- The vector whose entry `i` is `f i`. -/
def ofFn (f : Fin n → α) : Vec α n := ⟨(List.finRange n).map f, by simp⟩

/-- Every entry changed by `f`, which also sees its index. -/
def mapIdx (f : Fin n → α → β) (v : Vec α n) : Vec β n := ofFn fun i => f i (v.get i)

/-- `n` equal entries. -/
def replicate (n : Nat) (a : α) : Vec α n := ⟨List.replicate n a, List.length_replicate⟩

/-- Whether every entry meets `p`. -/
def all (v : Vec α n) (p : α → Bool) : Bool := v.toList.all p

/-- Whether some entry meets `p`. -/
def any (v : Vec α n) (p : α → Bool) : Bool := v.toList.any p

/-- How many entries meet `p`. -/
def count (v : Vec α n) (p : α → Bool) : Nat := v.toList.countP p

/-- The first index whose entry meets `p`. -/
def find (v : Vec α n) (p : α → Bool) : Option (Fin n) := (List.finRange n).find? fun i => p (v.get i)

end Vec

end Sys2Proof
end

