-- ==== Sys2Proof/Config.lean ====
section
/-! DEFINITION. What the part fixes (sizes and periods the spec states) and the values it leaves free.

The two `opaque` constants have no body: no proof can see a value of theirs, so a claim holds whatever they are. -/

namespace Sys2Proof.Config

/-- The period of the frame timer in ms (R50). -/
def framePeriod : Nat := 2000

/-- The length of a firing slot in ms (R50). -/
def slotPeriod : Nat := 20

/-- The period of the unit timer in ms (R133). -/
def unitPeriod : Nat := 1

/-- The period of a row's step timer in ms (R9). -/
def stepPeriod : Nat := 1000

/-- The time a recipe write takes to complete, in ms (R149). -/
def writeTime : Nat := 40

/-- The longest gap between two bytes of a frame, in ms (R158). -/
def frameGap : Nat := 10

/-- The number of ring slots of the history ring (R128). -/
def ringSlots : Nat := 64

/-- The undelivered count at which RING_HIGH is raised (R130). -/
def ringHigh : Nat := 48

/-- The number of entries of the readback queue (R139). -/
def readbackSlots : Nat := 16

/-- The number of kinds a notes list holds (R119). -/
def noteSlots : Nat := 8

/-- The number of points a trace holds (R77). -/
def tracePoints : Nat := 32

/-- The limit of the saturating 16-bit counts (R9, R26, R60, R64, R156). -/
def countMax : Nat := 65535

/-- The limit of the cure accumulator (R73). -/
def accMax : Nat := 4294967295

/-- FREE VALUE (log 7). The 32-bit check computed over the fields of a recipe (R145), a function of the 213 bytes of the
fields in their written order; the spec names no algorithm. -/
opaque recipeCheck : List Byte → BitVec 32

/-- FREE VALUE (log 2). Which of several timer expiries due at the same moment is taken first, for the n-th such
moment: the spec lets them be taken in either order (R8, R9, R29, R67 and others). -/
opaque raceChoice : Nat → Nat

end Sys2Proof.Config
end

