-- ==== Sys2Proof/Syntax.lean ====
section
/-! DEFINITION. The commands of the part: one constructor for each row of spec/opcode_table.json.

A request's row stands for the request being taken by the block that owns it, its frame having passed R160; its reply is
written to `State.reply` (log 6). The row `frameReceived` takes the bytes of a frame and does both halves, the port's and
the owning block's. A timer's row stands for the expiry of that timer. -/

namespace Sys2Proof

/-- The four ports by their role, which their position fixes (R156). -/
inductive PortId where
  | press | charge | extract | records
  deriving DecidableEq, Repr

/-- The four interlock inputs (R103). -/
inductive InterlockInput where
  | pressAtTop | ejectForward | curtainClear | robotZoneFree
  deriving DecidableEq, Repr

/-- The commands. Shots, cavities, recipe slots, items, outcomes, modes and quantities are the numbers the payload carries
(R162); `WellFormed` bounds them by their field's size. -/
inductive Instr where
  /-- OPEN_CYCLE(shot, recipe), R10, R11. -/
  | openCycle (shot recipe : Nat)
  /-- ABORT_CYCLE(shot), R13. -/
  | abortCycle (shot : Nat)
  /-- CLOSE_PERMIT(shot), R14. -/
  | closePermit (shot : Nat)
  /-- CLOSED(shot), R16, R17. -/
  | closed (shot : Nat)
  /-- OPENED(shot), R16, R18. -/
  | opened (shot : Nat)
  /-- RELEASE_QUERY(shot), R19. -/
  | releaseQuery (shot : Nat)
  /-- HEAT_ON(recipe), R32. -/
  | heatOn (recipe : Nat)
  /-- HEAT_OFF, R33. -/
  | heatOff
  /-- TARE, R89. -/
  | tare
  /-- WEIGH(shot, cavity), R91, R92. -/
  | weigh (shot cavity : Nat)
  /-- WEIGH_CANCEL, R94. -/
  | weighCancel
  /-- WEIGH_RESULT, R96. -/
  | weighResult
  /-- ADMIT(shot, cavity), R97 to R99. -/
  | admitCharge (shot cavity : Nat)
  /-- ADMIT_OVERRIDE(shot, cavity), R97 to R99. -/
  | admitOverride (shot cavity : Nat)
  /-- EXTRACT_GRANT(shot, cavity), R105, R106. -/
  | extractGrant (shot cavity : Nat)
  /-- EXTRACT_DONE(shot, cavity, outcome), R109 to R111; the outcome as R162 codes it. -/
  | extractDone (shot cavity outcome : Nat)
  /-- CLEAR(shot, cavity), R112. -/
  | clear (shot cavity : Nat)
  /-- SETTINGS_WRITE(entries), R168; the payload's bytes. -/
  | settingsWrite (payload : List Byte)
  /-- RECIPE_WRITE(slot, recipe), R147; the payload's bytes, the slot number first. -/
  | recipeWrite (payload : List Byte)
  /-- LOCK_STORE, R152. -/
  | lockStore
  /-- UNLOCK_STORE, R152. -/
  | unlockStore
  /-- RUN_SET(recipe, mode, quantity), R154; the mode as R162 codes it. -/
  | runSet (recipe mode quantity : Nat)
  /-- CELL_CLEAR, R24, R25. -/
  | cellClear
  /-- STATUS from a port, R166. -/
  | status (port : PortId)
  /-- POLL from a port, R165. -/
  | poll (port : PortId)
  /-- READBACK(item) from a port, R139. -/
  | readback (port : PortId) (item : Nat)
  /-- RECIPE_READ(slot) from a port, R153. -/
  | recipeRead (port : PortId) (slot : Nat)
  /-- RUN_QUERY(recipe) from a port, R155. -/
  | runQuery (port : PortId) (recipe : Nat)
  /-- SETTINGS_READ from a port, R169. -/
  | settingsRead (port : PortId)
  /-- CYCLE_QUERY(shot) from a port, R20, R21. -/
  | cycleQuery (port : PortId) (shot : Nat)
  /-- Bytes arrive on a port's link, the last of them completing a frame, R158 to R162. -/
  | frameReceived (port : PortId) (bytes : List Byte)
  /-- More than 10 ms have passed since the last byte of a port's unfinished frame, R158. -/
  | frameGapTimeout (port : PortId)
  /-- The last byte of a port's reply has been sent, R159. -/
  | replySent (port : PortId)
  /-- A sample arrives on the sample link, R26. -/
  | sampleArrival (channel : Nat) (value : BitVec 16)
  /-- The timeout of the settle run expires, R88. -/
  | settleRunTimeout
  /-- The frame timer expires, R42, R50. -/
  | frameStart
  /-- A firing slot after slot 0 starts, R54 to R56. -/
  | slotStart
  /-- The mains-hold input takes a level, R54. -/
  | mainsHoldChange (level : Bool)
  /-- The idle timer reaches IDLE_LIMIT, R39. -/
  | idleExpiry
  /-- The step timer of a row expires, R9, R66. -/
  | cureStep (row : Fin 8)
  /-- The row timer of a row in CURING expires, R8. -/
  | maxCureExpiry (row : Fin 8)
  /-- The row timer of a row in OPENED expires, R113. -/
  | demouldExpiry (row : Fin 8)
  /-- An interlock input takes a level, R103. -/
  | interlockChange (input : InterlockInput) (level : Bool)
  /-- The unit timer expires, R133. -/
  | unitTimer
  /-- The ready line of the line recorder takes a level, R133. -/
  | readyLineChange (level : Bool)
  /-- The recipe write in flight completes; `strap` is the level of the store-lock strap at that moment, R150. -/
  | recipeWriteComplete (strap : Bool)
  /-- Power-up or the reset input; `strap` is the level of the store-lock strap at that moment, R1, R145, R146, R151. -/
  | reset (strap : Bool)
  deriving DecidableEq, Repr

end Sys2Proof
end

