-- ==== Sys2Proof/WellFormed.lean ====
section
/-! DEFINITION. When a command's operands fit the fields that carry them (R26, R157, R162).

`exec` gives a meaning to every command, well formed or not (log 13); encoding statements need the bound. -/

namespace Sys2Proof

/-- A number that fits one byte of a payload. -/
abbrev fits1 (n : Nat) : Bool := decide (n < 256)

/-- A number that fits two bytes of a payload. -/
abbrev fits2 (n : Nat) : Bool := decide (n < 65536)

/-- A payload that a frame can carry: the length byte counts kind and payload together, 1..255 (R157). -/
abbrev fitsFrame (l : List Byte) : Bool := decide (l.length ≤ 254)

/-- Every operand fits the field that carries it (R26, R157, R162). -/
def Instr.wellFormed : Instr → Bool
  | .openCycle shot recipe => fits2 shot && fits1 recipe
  | .abortCycle shot | .closePermit shot | .closed shot | .opened shot | .releaseQuery shot => fits2 shot
  | .heatOn recipe => fits1 recipe
  | .weigh shot cavity | .admitCharge shot cavity | .admitOverride shot cavity | .extractGrant shot cavity
  | .clear shot cavity => fits2 shot && fits1 cavity
  | .extractDone shot cavity outcome => fits2 shot && fits1 cavity && fits1 outcome
  | .settingsWrite payload => fitsFrame payload
  | .recipeWrite payload => decide (payload.length = 214)
  | .runSet recipe mode quantity => fits1 recipe && fits1 mode && fits2 quantity
  | .readback _ item => fits1 item
  | .recipeRead _ slot => fits1 slot
  | .runQuery _ recipe => fits1 recipe
  | .cycleQuery _ shot => fits2 shot
  | .sampleArrival channel _ => decide (channel < 16)
  | .heatOff | .tare | .weighCancel | .weighResult | .lockStore | .unlockStore | .cellClear => true
  | .status _ | .poll _ | .settingsRead _ | .frameReceived _ _ | .frameGapTimeout _ | .replySent _ => true
  | .settleRunTimeout | .frameStart | .slotStart | .mainsHoldChange _ | .idleExpiry | .cureStep _ | .maxCureExpiry _
  | .demouldExpiry _ | .interlockChange _ _ | .unitTimer | .readyLineChange _ | .recipeWriteComplete _ | .reset _ => true

end Sys2Proof
end

