-- ==== Sys2Proof/Decode.lean ====
section
/-! DEFINITION. The request frame of the cell link ports: its check, its catalogue, and reading a request from a frame's
kind and payload (R157, R160, R162), with the encoder beside it. `decodeTableWord` stands here as the task asks: the
opcode table of this part gives no bits to any row, so no table word spells a command. -/

namespace Sys2Proof

/-- The opcode table gives no row a bit pattern, so a word spells no command. -/
def decodeTableWord (_nbits _w : Nat) : Option Instr := none

/-! ### Byte order (R157: most significant byte first) -/

/-- A number in 2 bytes, most significant first. -/
def be2 (n : Nat) : List Byte := [BitVec.ofNat 8 (n / 256), BitVec.ofNat 8 n]

/-- A number in 4 bytes, most significant first. -/
def be4 (n : Nat) : List Byte :=
  [BitVec.ofNat 8 (n / 16777216), BitVec.ofNat 8 (n / 65536), BitVec.ofNat 8 (n / 256), BitVec.ofNat 8 n]

/-- The number that 2 bytes carry. -/
def read2 (hi lo : Byte) : Nat := hi.toNat * 256 + lo.toNat

/-! ### The check (R157) -/

/-- One bit of the check: shift left, and apply the generator polynomial 0x1021 where a 1 leaves. -/
def crcBit (crc : BitVec 16) : BitVec 16 := if crc.msb then (crc <<< 1) ^^^ 0x1021#16 else crc <<< 1

/-- One byte of the check, its bits most significant first. -/
def crcByte (crc : BitVec 16) (b : Byte) : BitVec 16 :=
  Nat.repeat crcBit 8 (crc ^^^ (b.zeroExtend 16 <<< 8))

/-- The CRC-16 of the length, kind and payload bytes: start 0xFFFF, no final inversion (R157). -/
def crc16 (bytes : List Byte) : BitVec 16 := bytes.foldl crcByte 0xFFFF#16

/-- A frame of the cell link: sync, length, kind, payload, check (R157). -/
def frameBytes (kind : Byte) (payload : List Byte) : List Byte :=
  let body := BitVec.ofNat 8 (payload.length + 1) :: kind :: payload
  0x7E#8 :: (body ++ be2 (crc16 body).toNat)

/-! ### The catalogue (R162) -/

/-- Who may send a request: one role, or every port. -/
inductive Sender where
  | only (role : PortId)
  | any
  deriving DecidableEq, Repr

/-- Whether a port's role may send (R160, order 2). -/
def Sender.allows : Sender → PortId → Bool
  | .only role, p => role == p
  | .any, _ => true

/-- The role that may send the request of a kind byte; `none` for a kind that is not in the catalogue (R162). -/
def catalogue (kind : Nat) : Option Sender :=
  match kind with
  | 0x10 | 0x11 | 0x12 | 0x13 | 0x14 | 0x15 | 0x16 | 0x17 => some (.only .press)
  | 0x20 | 0x21 | 0x22 | 0x23 | 0x24 | 0x25 => some (.only .charge)
  | 0x30 | 0x31 | 0x32 => some (.only .extract)
  | 0x40 | 0x41 | 0x42 | 0x43 | 0x44 | 0x45 => some (.only .records)
  | 0x01 | 0x02 | 0x03 | 0x04 | 0x05 | 0x06 | 0x07 => some .any
  | _ => none

/-- The three answers of R160 to a frame that no block takes. -/
inductive FrameRefusal where
  | unknownRequest | refusedRole | malformed
  deriving DecidableEq, Repr

/-- A request without parameters: its payload is empty. -/
def readEmpty (i : Instr) : List Byte → Option Instr
  | [] => some i
  | _ => none

/-- A payload of 1 byte. -/
def readByte (f : Nat → Instr) : List Byte → Option Instr
  | [a] => some (f a.toNat)
  | _ => none

/-- A payload of a shot. -/
def readShot (f : Nat → Instr) : List Byte → Option Instr
  | [a, b] => some (f (read2 a b))
  | _ => none

/-- A payload of a shot and 1 byte. -/
def readShotByte (f : Nat → Nat → Instr) : List Byte → Option Instr
  | [a, b, c] => some (f (read2 a b) c.toNat)
  | _ => none

/-- A payload of a shot and 2 single bytes. -/
def readShotBytes (f : Nat → Nat → Nat → Instr) : List Byte → Option Instr
  | [a, b, c, d] => some (f (read2 a b) c.toNat d.toNat)
  | _ => none

/-- A payload of 2 single bytes and a quantity. -/
def readBytesQuantity (f : Nat → Nat → Nat → Instr) : List Byte → Option Instr
  | [a, b, c, d] => some (f a.toNat b.toNat (read2 c d))
  | _ => none

/-- The request that a kind and a payload of the catalogue's size carry; `none` where the size is another (R162). The
payload of SETTINGS_WRITE has no one size: R168 checks it. -/
def requestOf (p : PortId) (kind : Nat) (payload : List Byte) : Option Instr :=
  match kind with
  | 0x10 => readShotByte .openCycle payload
  | 0x11 => readShot .abortCycle payload
  | 0x12 => readShot .closePermit payload
  | 0x13 => readShot .closed payload
  | 0x14 => readShot .opened payload
  | 0x15 => readShot .releaseQuery payload
  | 0x16 => readByte .heatOn payload
  | 0x17 => readEmpty .heatOff payload
  | 0x20 => readEmpty .tare payload
  | 0x21 => readShotByte .weigh payload
  | 0x22 => readEmpty .weighCancel payload
  | 0x23 => readEmpty .weighResult payload
  | 0x24 => readShotByte .admitCharge payload
  | 0x25 => readShotByte .admitOverride payload
  | 0x30 => readShotByte .extractGrant payload
  | 0x31 => readShotBytes .extractDone payload
  | 0x32 => readShotByte .clear payload
  | 0x40 => some (.settingsWrite payload)
  | 0x41 => if payload.length = 214 then some (.recipeWrite payload) else none
  | 0x42 => readEmpty .lockStore payload
  | 0x43 => readEmpty .unlockStore payload
  | 0x44 => readBytesQuantity .runSet payload
  | 0x45 => readEmpty .cellClear payload
  | 0x01 => readEmpty (.status p) payload
  | 0x02 => readEmpty (.poll p) payload
  | 0x03 => readByte (.readback p) payload
  | 0x04 => readByte (.recipeRead p) payload
  | 0x05 => readByte (.runQuery p) payload
  | 0x06 => readEmpty (.settingsRead p) payload
  | 0x07 => readShot (.cycleQuery p) payload
  | _ => none

/-- The dispatch of a good frame (R160): the request it carries, or the first of the three refusals that holds. -/
def decodeRequest (p : PortId) (kind : Byte) (payload : List Byte) : Except FrameRefusal Instr :=
  match catalogue kind.toNat with
  | none => .error .unknownRequest
  | some sender =>
    if sender.allows p then
      match requestOf p kind.toNat payload with
      | some i => .ok i
      | none => .error .malformed
    else .error .refusedRole

/-! ### The encoder -/

/-- The kind byte of a request (R162); `none` for a command that is no request. -/
def Instr.kindByte : Instr → Option Byte
  | .openCycle _ _ => some 0x10#8
  | .abortCycle _ => some 0x11#8
  | .closePermit _ => some 0x12#8
  | .closed _ => some 0x13#8
  | .opened _ => some 0x14#8
  | .releaseQuery _ => some 0x15#8
  | .heatOn _ => some 0x16#8
  | .heatOff => some 0x17#8
  | .tare => some 0x20#8
  | .weigh _ _ => some 0x21#8
  | .weighCancel => some 0x22#8
  | .weighResult => some 0x23#8
  | .admitCharge _ _ => some 0x24#8
  | .admitOverride _ _ => some 0x25#8
  | .extractGrant _ _ => some 0x30#8
  | .extractDone _ _ _ => some 0x31#8
  | .clear _ _ => some 0x32#8
  | .settingsWrite _ => some 0x40#8
  | .recipeWrite _ => some 0x41#8
  | .lockStore => some 0x42#8
  | .unlockStore => some 0x43#8
  | .runSet _ _ _ => some 0x44#8
  | .cellClear => some 0x45#8
  | .status _ => some 0x01#8
  | .poll _ => some 0x02#8
  | .readback _ _ => some 0x03#8
  | .recipeRead _ _ => some 0x04#8
  | .runQuery _ _ => some 0x05#8
  | .settingsRead _ => some 0x06#8
  | .cycleQuery _ _ => some 0x07#8
  | .frameReceived _ _ | .frameGapTimeout _ | .replySent _ | .sampleArrival _ _ | .settleRunTimeout | .frameStart
  | .slotStart | .mainsHoldChange _ | .idleExpiry | .cureStep _ | .maxCureExpiry _ | .demouldExpiry _
  | .interlockChange _ _ | .unitTimer | .readyLineChange _ | .recipeWriteComplete _ | .reset _ => none

/-- The payload bytes of a request (R162); empty for a command that is no request. -/
def Instr.payload : Instr → List Byte
  | .openCycle shot b | .weigh shot b | .admitCharge shot b | .admitOverride shot b | .extractGrant shot b
  | .clear shot b => be2 shot ++ [BitVec.ofNat 8 b]
  | .abortCycle shot | .closePermit shot | .closed shot | .opened shot | .releaseQuery shot
  | .cycleQuery _ shot => be2 shot
  | .extractDone shot cavity outcome => be2 shot ++ [BitVec.ofNat 8 cavity, BitVec.ofNat 8 outcome]
  | .settingsWrite payload | .recipeWrite payload => payload
  | .runSet recipe mode quantity => [BitVec.ofNat 8 recipe, BitVec.ofNat 8 mode] ++ be2 quantity
  | .heatOn b | .readback _ b | .recipeRead _ b | .runQuery _ b => [BitVec.ofNat 8 b]
  | .heatOff | .tare | .weighCancel | .weighResult | .lockStore | .unlockStore | .cellClear | .status _ | .poll _
  | .settingsRead _ => []
  | .frameReceived _ _ | .frameGapTimeout _ | .replySent _ | .sampleArrival _ _ | .settleRunTimeout | .frameStart
  | .slotStart | .mainsHoldChange _ | .idleExpiry | .cureStep _ | .maxCureExpiry _ | .demouldExpiry _
  | .interlockChange _ _ | .unitTimer | .readyLineChange _ | .recipeWriteComplete _ | .reset _ => []

/-- Whether a command is a request that a controller may send on port `p` (R162). -/
def Instr.sentOn (p : PortId) : Instr → Bool
  | .openCycle _ _ | .abortCycle _ | .closePermit _ | .closed _ | .opened _ | .releaseQuery _ | .heatOn _
  | .heatOff => p == .press
  | .tare | .weigh _ _ | .weighCancel | .weighResult | .admitCharge _ _ | .admitOverride _ _ => p == .charge
  | .extractGrant _ _ | .extractDone _ _ _ | .clear _ _ => p == .extract
  | .settingsWrite _ | .recipeWrite _ | .lockStore | .unlockStore | .runSet _ _ _ | .cellClear => p == .records
  | .status q | .poll q | .readback q _ | .recipeRead q _ | .runQuery q _ | .settingsRead q | .cycleQuery q _ => p == q
  | .frameReceived _ _ | .frameGapTimeout _ | .replySent _ | .sampleArrival _ _ | .settleRunTimeout | .frameStart
  | .slotStart | .mainsHoldChange _ | .idleExpiry | .cureStep _ | .maxCureExpiry _ | .demouldExpiry _
  | .interlockChange _ _ | .unitTimer | .readyLineChange _ | .recipeWriteComplete _ | .reset _ => false

end Sys2Proof
end

