-- ==== Sys2Proof/Machine/State.lean ====
section
/-! DEFINITION. The state of the part, as plain data: one structure for each of the eleven blocks, the pins, the cell
clock, and the queue of waiting commands; the two stop types; and the state after reset. -/

namespace Sys2Proof.Machine

/-! ### Named values (their codes in replies and records stand in Operands.lean) -/

/-- Row states (R1). -/
inductive RowState where
  | free | open_ | charged | curing | releasable | opened
  deriving DecidableEq, Repr

/-- Charge states of a cavity slot (R5). -/
inductive ChargeState where
  | empty | awaitCharge | charged | void
  deriving DecidableEq, Repr

/-- Cure statuses (R64). -/
inductive CureStatus where
  | none | curing | reached | timedOut | forced
  deriving DecidableEq, Repr

/-- Tool statuses (R101). -/
inductive ToolStatus where
  | notInTool | inTool | granted | removed | stuck | abandoned | cleared
  deriving DecidableEq, Repr

/-- Record statuses (R118). -/
inductive RecordStatus where
  | notDue | queued | recorded
  deriving DecidableEq, Repr

/-- Verdicts (R123). -/
inductive Verdict where
  | good | outOfTolerance | suspect | undercure | scorched | abandoned | stuck | forced
  deriving DecidableEq, Repr

/-- Tool outcomes carried into a part record (R121). -/
inductive ToolOutcome where
  | removed | stuck | abandoned | cleared
  deriving DecidableEq, Repr

/-- The eleven note kinds (section 7.2). -/
inductive NoteKind where
  | unpermittedClose | overrideCharge | forcedOpen | clearedByCell | supplyShortfall | zoneFaultTop | zoneFaultBottom
  | blind | traceTruncated | interlockBreak | noGrant
  deriving DecidableEq, Repr

/-- Sensor states of a zone (R28). -/
inductive SensorState where
  | none | ok | stale | open_ | range
  deriving DecidableEq, Repr

/-- Platen states (section 2.4). -/
inductive PlatenState where
  | off | warming | ready | standby
  deriving DecidableEq, Repr

/-- Classes of a weigh result (R93). -/
inductive WeighClass where
  | accept | light | heavy | emptyPan | unstable | overload | cancelled
  deriving DecidableEq, Repr

/-- Tare outcomes (R85). -/
inductive TareOutcome where
  | tared | tareReject | unstable | overload | cancelled
  deriving DecidableEq, Repr

/-- Modes of a run table entry (R154). -/
inductive RunMode where
  | unset | counted | continuous
  deriving DecidableEq, Repr

/-- Validity of a recipe slot (R145). -/
inductive Validity where
  | valid | empty | corrupt
  deriving DecidableEq, Repr

/-- Lock states of the recipe store (R146). -/
inductive LockState where
  | locked | unlocked
  deriving DecidableEq, Repr

/-- Notice kinds, in the order of R163's table. -/
inductive NoticeKind where
  | cycleOpened | releasable | pressOpened | cellFault | platenReady | platenNotReady | tareDone | weighDone
  | grantRevoked | demouldExpired | toolClear | runComplete | ringHigh | storeDone | storeCorrupt
  deriving DecidableEq, Repr

/-- Result codes, in the order of section 10.5, which gives their values. -/
inductive ResultCode where
  | done | started | granted | denied
  | malformed | unknownRequest | refusedRole
  | unknownShot | duplicateShot | tableFull | wrongState | sequence | busy
  | recipeConflict | recipeInvalid | recipeRejected | noRun | runComplete | belowReserved | inUse | locked
  | noTare | alreadyCharged | attemptsExhausted | notAccepted | overrideForbidden
  | late | ringFull
  | dropped
  deriving DecidableEq, Repr

/-- Reasons of a DENIED reply, in the order of section 10.5. -/
inductive DenyReason where
  | notCharged | platenNotReady | toolNotClear | pressBusy | grantHeld | interlock | wrongState
  deriving DecidableEq, Repr

/-! ### Replies (R161) -/

/-- One value of a reply, in the size R161 gives it. -/
inductive ReplyField where
  /-- A value of 1 byte. -/
  | byte (n : Nat)
  /-- A value of 2 bytes. -/
  | word (n : Nat)
  /-- A cell clock value or the idle timer's elapsed seconds, 4 bytes. -/
  | long (n : Nat)
  /-- A signed value of 2 bytes. -/
  | signed (z : Int)
  /-- A flag, a level, a presence byte. -/
  | flag (b : Bool)
  /-- Bytes sent as they stand (a recipe's NAME). -/
  | raw (l : List Byte)
  deriving DecidableEq, Repr

/-- A reply: its result code, and the values that follow (a DENIED reason comes first among them). -/
structure Reply where
  code : ResultCode
  fields : List ReplyField
  deriving DecidableEq, Repr

/-! ### Recipes (R145) -/

/-- The 33 fields of a recipe, in the order of R145's table. -/
structure Recipe where
  number : Nat
  name : Vec Byte 16
  enabled : Vec Bool 8
  topZone : Vec Nat 8
  bottomZone : Vec Nat 8
  offset : Vec Int 8
  nominal : Vec Nat 8
  tolLow : Vec Nat 8
  tolHigh : Vec Nat 8
  setpoint : Vec Nat 12
  fallbackDuty : Vec Nat 12
  maxDuty : Vec Nat 12
  kp : Nat
  ki : Nat
  cutbackBand : Nat
  base : Int
  width : Nat
  rate : Vec Nat 16
  cureTarget : Nat
  targetMin : Nat
  targetMax : Nat
  cureAdjust : Nat
  maxCure : Nat
  scorchTemp : Int
  scorchAllowance : Nat
  blindAllowance : Nat
  traceInterval : Nat
  maxAttempts : Nat
  overrideAllowed : Nat
  settleBand : Nat
  settleCount : Nat
  settleTimeout : Nat
  demouldLimit : Nat
  deriving DecidableEq, Repr

/-- The recipe of all zeros: what reading a recipe gives where a slot holds none. No row and no platen names such a slot
(log 14). -/
def Recipe.blank : Recipe :=
  { number := 0, name := .replicate 16 0, enabled := .replicate 8 false, topZone := .replicate 8 0,
    bottomZone := .replicate 8 0, offset := .replicate 8 0, nominal := .replicate 8 0, tolLow := .replicate 8 0,
    tolHigh := .replicate 8 0, setpoint := .replicate 12 0, fallbackDuty := .replicate 12 0, maxDuty := .replicate 12 0,
    kp := 0, ki := 0, cutbackBand := 0, base := 0, width := 0, rate := .replicate 16 0, cureTarget := 0, targetMin := 0,
    targetMax := 0, cureAdjust := 0, maxCure := 0, scorchTemp := 0, scorchAllowance := 0, blindAllowance := 0,
    traceInterval := 0, maxAttempts := 0, overrideAllowed := 0, settleBand := 0, settleCount := 0, settleTimeout := 0,
    demouldLimit := 0 }

/-! ### Cycle table -/

/-- The charge record of a CHARGED cavity (R5, R99). -/
structure ChargeRecord where
  net : Nat
  cls : WeighClass
  override : Bool
  attempts : Nat
  admitTime : Clock
  deriving DecidableEq, Repr

/-- An entry of a notes list (R118). -/
structure Note where
  kind : NoteKind
  count : Nat
  offset : Nat
  deriving DecidableEq, Repr

/-- A part record, as frozen at due time (R122). -/
structure PartRecord where
  shot : Nat
  cavity : Nat
  recipe : Nat
  verdict : Verdict
  net : Nat
  attempts : Nat
  override : Bool
  targetAdj : Nat
  reached : Option Nat
  finalCure : Nat
  peak : Option Int
  scorch : Nat
  blind : Nat
  timeClosed : Clock
  timePressOpened : Option Clock
  outcomeTime : Clock
  outcome : ToolOutcome
  notes : List Note
  notesDropped : Nat
  trace : List Int
  traceInterval : Nat
  deriving DecidableEq, Repr

/-- A cavity slot: the cycle table's, the cure integrator's, the extraction controller's and the record builder's parts of
it (R5, R64, R101, R118). -/
structure Cavity where
  charge : ChargeState
  attempts : Nat
  chargeRec : Option ChargeRecord
  cure : CureStatus
  targetAdj : Option Nat
  acc : Nat
  reached : Option Nat
  peak : Option Int
  scorch : Nat
  blind : Nat
  trace : List Int
  traceFull : Bool
  tool : ToolStatus
  record : RecordStatus
  notes : List Note
  notesDropped : Nat
  verdict : Option Verdict
  frozen : Option PartRecord
  deriving DecidableEq, Repr

/-- The freed condition of a cavity slot (R5, R64, R101, R118). -/
def Cavity.freed : Cavity :=
  { charge := .empty, attempts := 0, chargeRec := none, cure := .none, targetAdj := none, acc := 0, reached := none,
    peak := none, scorch := 0, blind := 0, trace := [], traceFull := false, tool := .notInTool, record := .notDue,
    notes := [], notesDropped := 0, verdict := none, frozen := none }

/-- A cycle row (R1). Both timers count milliseconds; `none` is stopped (R7, R9). -/
structure Row where
  state : RowState
  shot : Option Nat
  recipe : Option (Fin 8)
  rank : Option Nat
  permit : Bool
  timeOpened : Option Clock
  timeClosed : Option Clock
  timePressOpened : Option Clock
  rowTimer : Option Nat
  stepTimer : Option Nat
  elapsed : Nat
  cavities : Vec Cavity 8
  deriving DecidableEq, Repr

/-- The condition of a FREE row (R1). -/
def Row.freed : Row :=
  { state := .free, shot := none, recipe := none, rank := none, permit := false, timeOpened := none, timeClosed := none,
    timePressOpened := none, rowTimer := none, stepTimer := none, elapsed := 0, cavities := .replicate 8 Cavity.freed }

/-! ### Zone regulator and firing allocator -/

/-- A zone record (R28). -/
structure Zone where
  reading : Option Int
  arrival : Option Clock
  sensor : SensorState
  setpoint : Nat
  integral : Nat
  duty : Nat
  shortfall : Nat
  totalShortfall : Nat
  deriving DecidableEq, Repr

/-- A zone record after reset (R28). -/
def Zone.initial : Zone :=
  { reading := none, arrival := none, sensor := .none, setpoint := 0, integral := 0, duty := 0, shortfall := 0,
    totalShortfall := 0 }

/-- The zone regulator (R26, R28, R31). -/
structure Regulator where
  zones : Vec Zone 12
  platen : PlatenState
  platenRecipe : Option (Fin 8)
  dwell : Nat
  idleTimer : Option Clock
  sampleErrors : Nat
  deriving DecidableEq, Repr

/-- The frame state of one zone (R51). -/
structure FiringZone where
  frameDuty : Nat
  windowStart : Nat
  owed : Nat
  deferred : Bool
  output : Bool
  deriving DecidableEq, Repr

/-- The frame state of a zone after reset (R51). -/
def FiringZone.initial : FiringZone :=
  { frameDuty := 0, windowStart := 0, owed := 0, deferred := false, output := false }

/-- The firing allocator (R50, R51). `slot` is the frame in progress: none, or its current slot. The two timers hold the
milliseconds to the next frame start and the next slot start. -/
structure Firing where
  zones : Vec FiringZone 12
  slot : Option Nat
  limit : Nat
  cellShortfall : Nat
  frameTimer : Nat
  slotTimer : Nat
  deriving DecidableEq, Repr

/-! ### Weigh unit -/

/-- What a weigh run records of its WEIGH (R92), with the orphaned mark of R95. -/
structure WeighTicket where
  shot : Nat
  cavity : Fin 8
  row : Fin 8
  nominal : Nat
  tolLow : Nat
  tolHigh : Nat
  attempt : Nat
  orphaned : Bool
  deriving DecidableEq, Repr

/-- A settle run (R87). `ticket` is none for a tare run. -/
structure SettleRun where
  ticket : Option WeighTicket
  band : Nat
  settleCount : Nat
  timeout : Nat
  start : Clock
  reference : Option Nat
  count : Nat
  sum : Nat
  samples : Nat
  deriving DecidableEq, Repr

/-- A weigh result record (R93). `row` is the row its WEIGH was accepted for, by which R95 finds it. -/
structure WeighResult where
  shot : Nat
  cavity : Fin 8
  row : Fin 8
  gross : Option Nat
  net : Option Nat
  cls : WeighClass
  attempt : Nat
  samples : Nat
  time : Clock
  admitted : Bool
  orphaned : Bool
  deriving DecidableEq, Repr

/-- The weigh unit (R85). -/
structure WeighUnit where
  tare : Option Nat
  tareOutcome : Option (TareOutcome × Option Nat)
  run : Option SettleRun
  result : Option WeighResult
  pan : Option Nat
  deriving DecidableEq, Repr

/-! ### Extraction controller -/

/-- The levels of the four interlock inputs (R103). -/
structure Interlocks where
  pressAtTop : Bool
  ejectForward : Bool
  curtainClear : Bool
  robotZoneFree : Bool
  deriving DecidableEq, Repr

/-- The single outstanding extraction grant (R102). -/
structure Grant where
  row : Fin 8
  shot : Nat
  cavity : Fin 8
  deriving DecidableEq, Repr

/-- The extraction controller (R102). -/
structure Extraction where
  grant : Option Grant
  inputs : Interlocks
  uncleared : Nat
  deriving DecidableEq, Repr

/-! ### Records streamer -/

/-- A stream in progress (R132): the records-ended count and the byte position in the oldest record of the ring. -/
structure Stream where
  ended : Nat
  position : Nat
  deriving DecidableEq, Repr

/-- The records streamer (R132), with its unit timer and the unit it puts on the records link. -/
structure Streamer where
  unitCount : Nat
  stream : Option Stream
  endOwed : Bool
  fault : Bool
  warning : Bool
  readback : List Nat
  unitTimer : Nat
  unitOut : Option (List Byte)
  deriving DecidableEq, Repr

/-! ### Recipe store -/

/-- The nonvolatile contents of a recipe slot: erased; the recipe with its 32-bit check (R145); or a write that a reset
cut short (R151). -/
inductive SlotImage where
  | erased
  | written (recipe : Recipe) (check : BitVec 32)
  | torn
  deriving DecidableEq, Repr

/-- A recipe slot (R145). -/
structure StoreSlot where
  image : SlotImage
  validity : Validity
  deriving DecidableEq, Repr

/-- The write in flight (R146), with the recipe being programmed (R149). -/
structure WriteInFlight where
  slot : Fin 8
  accepted : Clock
  recipe : Recipe
  deriving DecidableEq, Repr

/-- The recipe store (R145, R146). -/
structure Store where
  slots : Vec StoreSlot 8
  lock : LockState
  write : Option WriteInFlight
  deriving DecidableEq, Repr

/-! ### Cell link ports -/

/-- A port's receiver (R156, R158): the bytes of the frame so far, and when the last of them arrived. -/
inductive Receiver where
  | hunting
  | inFrame (bytes : List Byte) (lastAt : Clock)
  deriving DecidableEq, Repr

/-- A waiting frame (R159): its kind and payload, and the bytes of its reply frame. -/
structure WaitingFrame where
  kind : Byte
  payload : List Byte
  reply : List Byte
  deriving DecidableEq, Repr

/-- The state of one port (R156); its role is its position. -/
structure Port where
  receiver : Receiver
  waiting : Option WaitingFrame
  frameErrors : Nat
  overruns : Nat
  notices : List NoticeKind
  attention : Bool
  deriving DecidableEq, Repr

/-- A port after reset (R156). -/
def Port.initial : Port :=
  { receiver := .hunting, waiting := none, frameErrors := 0, overruns := 0, notices := [], attention := false }

/-- The four ports. -/
structure Ports where
  press : Port
  charge : Port
  extract : Port
  records : Port
  deriving DecidableEq, Repr

/-- The settings record (R167). -/
structure Settings where
  supplyLimit : Nat
  holdLimit : Nat
  firingRank : Vec Nat 12
  stagger : Vec Nat 12
  sampleStaleMs : Nat
  readyBand : Nat
  readyDwell : Nat
  idleLimit : Nat
  setback : Nat
  tareBand : Nat
  tareCount : Nat
  tareTimeout : Nat
  tareLimit : Nat
  emptyThreshold : Nat
  interlockPattern : BitVec 16
  nd : Nat
  ne : Nat
  endMarker : Bool
  autoA : Nat
  autoB : Nat
  deriving DecidableEq, Repr

/-- The defaults of the settings record (R167). -/
def Settings.default : Settings :=
  { supplyLimit := 8, holdLimit := 2, firingRank := .ofFn fun z => z.val, stagger := .ofFn fun z => 8 * z.val,
    sampleStaleMs := 1500, readyBand := 50, readyDwell := 3, idleLimit := 1800, setback := 1000, tareBand := 20,
    tareCount := 8, tareTimeout := 3000, tareLimit := 2000, emptyThreshold := 500, interlockPattern := 0x8000#16,
    nd := 50, ne := 8, endMarker := false, autoA := 41, autoB := 43 }

/-- An entry of the run table (R154). -/
structure RunEntry where
  mode : RunMode
  remaining : Nat
  reserved : Nat
  deriving DecidableEq, Repr

/-- The levels of the discrete inputs but the interlocks (section 10.9). -/
structure Pins where
  mainsHold : Bool
  strap : Bool
  readyLine : Bool
  /-- The MODEL's field: the levels that the board gives the strap in the coming milliseconds, the next one first; where it
  is empty the strap keeps its level (log 4). -/
  strapAhead : List Bool
  deriving DecidableEq, Repr

/-! ### The state -/

/-- The whole state of the part, and the queue of commands that wait for it. -/
structure State where
  /-- The waiting commands, first in, first out. -/
  pending : List Instr
  clock : Clock
  pins : Pins
  rows : Vec Row 8
  regulator : Regulator
  firing : Firing
  weigh : WeighUnit
  extraction : Extraction
  /-- The record queue, oldest first: each cavity by its row and number (R127); its frozen record is in the slot (R118). -/
  recordQueue : List (Fin 8 × Fin 8)
  /-- The history ring, oldest record first (R128). -/
  ring : List PartRecord
  streamer : Streamer
  store : Store
  ports : Ports
  settings : Settings
  runs : Vec RunEntry 8
  /-- The MODEL's field: the reply of the request last taken as a command of its own row (log 6). -/
  reply : Option (PortId × Reply)
  /-- The MODEL's field: how often a free order of simultaneous expiries has been taken (log 2). -/
  raceCount : Nat
  deriving DecidableEq, Repr

/-- The reasons for which a command stops with a fault: none. The spec answers every command that does not fit with a
reply, a notice or a flag, and no rule of it stops the part. -/
inductive Fault
  deriving DecidableEq, Repr

/-- The reasons for which the model has no meaning for a command. -/
inductive Refusal where
  /-- Raised by `exec` for a command whose arm is not modelled yet; safe. No arm does so. -/
  | notModelled (mnemonic : String)
  deriving DecidableEq, Repr

/-- The part right after power-up with the recipe store as since manufacture. Every field has the value the spec gives it
for reset; the levels of the pins (log 3), the erased store (log 5), and the model's own fields `pins.strapAhead`, `reply`
and `raceCount` are the model's choices. -/
def State.reset : State where
  pending := []
  clock := 0
  pins := { mainsHold := false, strap := false, readyLine := false, strapAhead := [] }
  rows := .replicate 8 Row.freed
  regulator :=
    { zones := .replicate 12 Zone.initial, platen := .off, platenRecipe := none, dwell := 0, idleTimer := none,
      sampleErrors := 0 }
  firing :=
    { zones := .replicate 12 FiringZone.initial, slot := none, limit := 0, cellShortfall := 0,
      frameTimer := Config.framePeriod, slotTimer := 0 }
  weigh := { tare := none, tareOutcome := none, run := none, result := none, pan := none }
  extraction :=
    { grant := none,
      inputs := { pressAtTop := false, ejectForward := false, curtainClear := false, robotZoneFree := false },
      uncleared := 0 }
  recordQueue := []
  ring := []
  streamer :=
    { unitCount := 0, stream := none, endOwed := false, fault := false, warning := false, readback := [],
      unitTimer := Config.unitPeriod, unitOut := none }
  store := { slots := .replicate 8 { image := .erased, validity := .empty }, lock := .unlocked, write := none }
  ports := { press := .initial, charge := .initial, extract := .initial, records := .initial }
  settings := Settings.default
  runs := .replicate 8 { mode := .unset, remaining := 0, reserved := 0 }
  reply := none
  raceCount := 0

end Sys2Proof.Machine
end

