-- ==== Sys2Proof/Machine/Operands.lean ====
section
/-! DEFINITION. The operand forms of the commands: the codes of named values (R143, R161 to R163), the bytes of replies
(R161), the 213 bytes of a recipe and its validation (R145, R147, R148), the entries of a settings write (R167, R168), the
item ids of the readback (R138), and the serialised part record (R142 to R144). -/

namespace Sys2Proof.Machine

/-! ### Codes -/

/-- The code of a row state (R161). -/
def RowState.code : RowState → Nat
  | .free => 0 | .open_ => 1 | .charged => 2 | .curing => 3 | .releasable => 4 | .opened => 5

/-- The code of a charge state (R161). -/
def ChargeState.code : ChargeState → Nat
  | .empty => 0 | .awaitCharge => 1 | .charged => 2 | .void => 3

/-- The code of a cure status (R161). -/
def CureStatus.code : CureStatus → Nat
  | .none => 0 | .curing => 1 | .reached => 2 | .timedOut => 3 | .forced => 4

/-- The code of a tool status (R161). -/
def ToolStatus.code : ToolStatus → Nat
  | .notInTool => 0 | .inTool => 1 | .granted => 2 | .removed => 3 | .stuck => 4 | .abandoned => 5 | .cleared => 6

/-- The code of a record status (R161). -/
def RecordStatus.code : RecordStatus → Nat
  | .notDue => 0 | .queued => 1 | .recorded => 2

/-- The code of a sensor state (R161). -/
def SensorState.code : SensorState → Nat
  | .none => 0 | .ok => 1 | .stale => 2 | .open_ => 3 | .range => 4

/-- The code of a platen state (R161). -/
def PlatenState.code : PlatenState → Nat
  | .off => 0 | .warming => 1 | .ready => 2 | .standby => 3

/-- The code of a weigh class (R161). -/
def WeighClass.code : WeighClass → Nat
  | .accept => 0 | .light => 1 | .heavy => 2 | .emptyPan => 3 | .unstable => 4 | .overload => 5 | .cancelled => 6

/-- The code of a tare outcome (R161). -/
def TareOutcome.code : TareOutcome → Nat
  | .tared => 0 | .tareReject => 1 | .unstable => 2 | .overload => 3 | .cancelled => 4

/-- The code of a recipe validity (R161). -/
def Validity.code : Validity → Nat
  | .valid => 0 | .empty => 1 | .corrupt => 2

/-- The code of a lock state (R161). -/
def LockState.code : LockState → Nat
  | .locked => 0 | .unlocked => 1

/-- The code of a run mode (R162). -/
def RunMode.code : RunMode → Nat
  | .unset => 0 | .counted => 1 | .continuous => 2

/-- The run mode of a code (R162). -/
def RunMode.ofCode : Nat → Option RunMode
  | 0 => some .unset
  | 1 => some .counted
  | 2 => some .continuous
  | _ => none

/-- The code of a verdict (R143). -/
def Verdict.code : Verdict → Nat
  | .good => 0 | .outOfTolerance => 1 | .suspect => 2 | .undercure => 3 | .scorched => 4 | .abandoned => 5 | .stuck => 6
  | .forced => 7

/-- The code of a tool outcome (R143). -/
def ToolOutcome.code : ToolOutcome → Nat
  | .removed => 1 | .stuck => 2 | .abandoned => 3 | .cleared => 4

/-- The code of a note kind (R143). -/
def NoteKind.code : NoteKind → Nat
  | .unpermittedClose => 1 | .overrideCharge => 2 | .forcedOpen => 3 | .clearedByCell => 4 | .supplyShortfall => 5
  | .zoneFaultTop => 6 | .zoneFaultBottom => 7 | .blind => 8 | .traceTruncated => 9 | .interlockBreak => 10 | .noGrant => 11

/-- The code of a notice kind: its position in R163's table. -/
def NoticeKind.code : NoticeKind → Nat
  | .cycleOpened => 0 | .releasable => 1 | .pressOpened => 2 | .cellFault => 3 | .platenReady => 4 | .platenNotReady => 5
  | .tareDone => 6 | .weighDone => 7 | .grantRevoked => 8 | .demouldExpired => 9 | .toolClear => 10 | .runComplete => 11
  | .ringHigh => 12 | .storeDone => 13 | .storeCorrupt => 14

/-- The code of a result: its position in the list of section 10.5. -/
def ResultCode.code : ResultCode → Nat
  | .done => 0 | .started => 1 | .granted => 2 | .denied => 3 | .malformed => 4 | .unknownRequest => 5 | .refusedRole => 6
  | .unknownShot => 7 | .duplicateShot => 8 | .tableFull => 9 | .wrongState => 10 | .sequence => 11 | .busy => 12
  | .recipeConflict => 13 | .recipeInvalid => 14 | .recipeRejected => 15 | .noRun => 16 | .runComplete => 17
  | .belowReserved => 18 | .inUse => 19 | .locked => 20 | .noTare => 21 | .alreadyCharged => 22 | .attemptsExhausted => 23
  | .notAccepted => 24 | .overrideForbidden => 25 | .late => 26 | .ringFull => 27 | .dropped => 28

/-- The code of a DENIED reason: its position in the list of section 10.5. -/
def DenyReason.code : DenyReason → Nat
  | .notCharged => 0 | .platenNotReady => 1 | .toolNotClear => 2 | .pressBusy => 3 | .grantHeld => 4 | .interlock => 5
  | .wrongState => 6

/-! ### Replies -/

/-- A reply that carries its code alone. -/
def Reply.plain (code : ResultCode) : Reply := { code := code, fields := [] }

/-- A DENIED reply with its reason (R161). -/
def Reply.deny (why : DenyReason) : Reply := { code := .denied, fields := [.byte why.code] }

/-- A signed number in 2 bytes, two's complement, most significant first. -/
def be2Signed (z : Int) : List Byte := be2 (z % 65536).toNat

/-- The bytes of a reply value (R161). -/
def ReplyField.bytes : ReplyField → List Byte
  | .byte n => [BitVec.ofNat 8 n]
  | .word n => be2 n
  | .long n => be4 n
  | .signed z => be2Signed z
  | .flag b => [if b then 1#8 else 0#8]
  | .raw l => l

/-- The same field sent as zeros (R161). -/
def ReplyField.zeroed : ReplyField → ReplyField
  | .byte _ => .byte 0
  | .word _ => .word 0
  | .long _ => .long 0
  | .signed _ => .signed 0
  | .flag _ => .flag false
  | .raw l => .raw (l.map fun _ => 0#8)

/-- A value or group that may be absent: one presence byte, then its fields, sent as zeros where it is absent (R161).
`shape` is any value; only the sizes of its fields reach the reply of an absent one. -/
def optFields {α : Type} (x : Option α) (shape : α) (f : α → List ReplyField) : List ReplyField :=
  match x with
  | some a => .flag true :: f a
  | none => .flag false :: (f shape).map ReplyField.zeroed

/-- A list: a 1-byte count, then its entries (R161). -/
def listFields {α : Type} (l : List α) (f : α → List ReplyField) : List ReplyField := .byte l.length :: l.flatMap f

/-- Values of 1 byte each. -/
def byteFields (l : List Nat) : List ReplyField := l.map ReplyField.byte

/-- Values of 2 bytes each. -/
def wordFields (l : List Nat) : List ReplyField := l.map ReplyField.word

/-- The payload bytes of a reply: the result code first (R161). -/
def Reply.bytes (r : Reply) : List Byte := BitVec.ofNat 8 r.code.code :: r.fields.flatMap ReplyField.bytes

/-! ### Parameters of requests (R2) -/

/-- A shot number is 1..65535; R2 answers MALFORMED to 0, and R16 to an out-of-range number. -/
def shotOk (shot : Nat) : Bool := decide (1 ≤ shot) && decide (shot ≤ 65535)

/-- A cavity number or recipe slot number 0..7 (R2). -/
def index8 (n : Nat) : Option (Fin 8) := if h : n < 8 then some ⟨n, h⟩ else none

/-- The entry of a 12-vector at a number, which validation keeps below 12 (R148); `d` elsewhere. -/
def at12 {α : Type} (v : Vec α 12) (z : Nat) (d : α) : α := if h : z < 12 then v.get ⟨z, h⟩ else d

/-! ### The bytes of a recipe (R147) -/

/-- A 1-byte field. -/
def byteAt (l : List Byte) (i : Nat) : Nat := (l.getD i 0#8).toNat

/-- A 2-byte unsigned field. -/
def wordAt (l : List Byte) (i : Nat) : Nat := read2 (l.getD i 0#8) (l.getD (i + 1) 0#8)

/-- A 2-byte number read as signed, two's complement. -/
def signed16 (n : Nat) : Int := if n < 32768 then n else (n : Int) - 65536

/-- A 2-byte signed field. -/
def signedAt (l : List Byte) (i : Nat) : Int := signed16 (wordAt l i)

/-- The recipe that the 213 bytes after the slot number carry (R147). -/
def Recipe.ofBytes (l : List Byte) : Recipe :=
  { number := wordAt l 0
    name := .ofFn fun i => l.getD (2 + i.val) 0#8
    enabled := .ofFn fun k => (l.getD 18 0#8).getLsbD k.val
    topZone := .ofFn fun k => byteAt l (19 + k.val)
    bottomZone := .ofFn fun k => byteAt l (27 + k.val)
    offset := .ofFn fun k => signedAt l (35 + 2 * k.val)
    nominal := .ofFn fun k => wordAt l (51 + 2 * k.val)
    tolLow := .ofFn fun k => wordAt l (67 + 2 * k.val)
    tolHigh := .ofFn fun k => wordAt l (83 + 2 * k.val)
    setpoint := .ofFn fun z => wordAt l (99 + 2 * z.val)
    fallbackDuty := .ofFn fun z => byteAt l (123 + z.val)
    maxDuty := .ofFn fun z => byteAt l (135 + z.val)
    kp := byteAt l 147
    ki := byteAt l 148
    cutbackBand := wordAt l 149
    base := signedAt l 151
    width := wordAt l 153
    rate := .ofFn fun i => wordAt l (155 + 2 * i.val)
    cureTarget := wordAt l 187
    targetMin := wordAt l 189
    targetMax := wordAt l 191
    cureAdjust := wordAt l 193
    maxCure := wordAt l 195
    scorchTemp := signedAt l 197
    scorchAllowance := wordAt l 199
    blindAllowance := wordAt l 201
    traceInterval := byteAt l 203
    maxAttempts := byteAt l 204
    overrideAllowed := byteAt l 205
    settleBand := wordAt l 206
    settleCount := byteAt l 208
    settleTimeout := wordAt l 209
    demouldLimit := wordAt l 211 }

/-- The byte that carries a set of cavities: the bit of weight 2^k includes cavity k (R147). -/
def setByte (v : Vec Bool 8) : Nat :=
  ((List.finRange 8).map fun k => if v.get k then 2 ^ k.val else 0).sum

/-- The number of cavities in ENABLED. -/
def Recipe.enabledCount (r : Recipe) : Nat := r.enabled.count id

/-- The 33 fields as reply values, in the order and sizes of R145 and R147. -/
def Recipe.fields (r : Recipe) : List ReplyField :=
  List.flatten
    [[.word r.number, .raw r.name.toList, .byte (setByte r.enabled)], byteFields r.topZone.toList,
     byteFields r.bottomZone.toList, r.offset.toList.map ReplyField.signed, wordFields r.nominal.toList,
     wordFields r.tolLow.toList, wordFields r.tolHigh.toList, wordFields r.setpoint.toList,
     byteFields r.fallbackDuty.toList, byteFields r.maxDuty.toList,
     [.byte r.kp, .byte r.ki, .word r.cutbackBand, .signed r.base, .word r.width], wordFields r.rate.toList,
     [.word r.cureTarget, .word r.targetMin, .word r.targetMax, .word r.cureAdjust, .word r.maxCure,
      .signed r.scorchTemp, .word r.scorchAllowance, .word r.blindAllowance, .byte r.traceInterval,
      .byte r.maxAttempts, .byte r.overrideAllowed, .word r.settleBand, .byte r.settleCount, .word r.settleTimeout,
      .word r.demouldLimit]]

/-- The bytes of a recipe, over which its check is computed (R145; log 7). -/
def Recipe.toBytes (r : Recipe) : List Byte := r.fields.flatMap ReplyField.bytes

/-! ### Validation (R148) -/

/-- One check of validation: the field's number, its index, and whether it passes. -/
abbrev FieldCheck := Nat × Nat × Bool

/-- A range check. -/
def inRange (n lo hi : Nat) : Bool := decide (lo ≤ n) && decide (n ≤ hi)

/-- A signed range check. -/
def inRangeInt (n lo hi : Int) : Bool := decide (lo ≤ n) && decide (n ≤ hi)

/-- The checks of one per-cavity field over the cavities of ENABLED, in number order. -/
def cavityChecks (r : Recipe) (field : Nat) (ok : Fin 8 → Bool) : List FieldCheck :=
  ((List.finRange 8).filter fun k => r.enabled.get k).map fun k => (field, k.val, ok k)

/-- The checks of one per-zone field over zones 0 to 11. -/
def zoneChecks (field : Nat) (ok : Fin 12 → Bool) : List FieldCheck :=
  (List.finRange 12).map fun z => (field, z.val, ok z)

/-- One check of a field of the recipe as a whole. -/
def fieldCheck (field : Nat) (ok : Bool) : FieldCheck := (field, 0, ok)

/-- The first pass over fields 1 to 12. -/
def firstPassZones (r : Recipe) : List FieldCheck :=
  List.flatten
    [[fieldCheck 1 (inRange r.number 0 65535), fieldCheck 3 (inRange r.enabledCount 1 8)],
     cavityChecks r 4 (fun k => inRange (r.topZone.get k) 0 11),
     cavityChecks r 5 (fun k => inRange (r.bottomZone.get k) 0 11),
     cavityChecks r 6 (fun k => inRangeInt (r.offset.get k) (-200) 200),
     cavityChecks r 7 (fun k => inRange (r.nominal.get k) 0 60000),
     cavityChecks r 8 (fun k => inRange (r.tolLow.get k) 0 60000),
     cavityChecks r 9 (fun k => inRange (r.tolHigh.get k) 0 60000),
     zoneChecks 10 (fun z => inRange (r.setpoint.get z) 0 4500),
     zoneChecks 11 (fun z => inRange (r.fallbackDuty.get z) 0 100),
     zoneChecks 12 (fun z => inRange (r.maxDuty.get z) 0 100)]

/-- The first pass over fields 13 to 33. -/
def firstPassRest (r : Recipe) : List FieldCheck :=
  List.flatten
    [[fieldCheck 13 (inRange r.kp 0 255), fieldCheck 14 (inRange r.ki 0 255),
      fieldCheck 15 (inRange r.cutbackBand 0 1000), fieldCheck 16 (inRangeInt r.base (-500) 4500),
      fieldCheck 17 (inRange r.width 10 500)],
     (List.finRange 16).map (fun i => (18, i.val, inRange (r.rate.get i) 0 4095)),
     [fieldCheck 19 (inRange r.cureTarget 1 65535), fieldCheck 20 (inRange r.targetMin 1 65535),
      fieldCheck 21 (inRange r.targetMax 1 65535), fieldCheck 22 (inRange r.cureAdjust 0 1000),
      fieldCheck 23 (inRange r.maxCure 1 65535), fieldCheck 24 (inRangeInt r.scorchTemp (-700) 4700),
      fieldCheck 25 (inRange r.scorchAllowance 0 65535), fieldCheck 26 (inRange r.blindAllowance 0 65535),
      fieldCheck 27 (inRange r.traceInterval 1 60), fieldCheck 28 (inRange r.maxAttempts 1 7),
      fieldCheck 29 (inRange r.overrideAllowed 0 1), fieldCheck 30 (inRange r.settleBand 1 1000),
      fieldCheck 31 (inRange r.settleCount 1 14), fieldCheck 32 (inRange r.settleTimeout 100 10000),
      fieldCheck 33 (inRange r.demouldLimit 1 65535)]]

/-- The first pass: each field against its range in R145, in the order of the field numbers. NAME takes any values. -/
def firstPass (r : Recipe) : List FieldCheck := firstPassZones r ++ firstPassRest r

/-- The SETPOINT of a zone named by number; 0 for a number that is no zone. -/
def Recipe.setpointAt (r : Recipe) (z : Nat) : Nat := at12 r.setpoint z 0

/-- The second pass: the cross-field checks, in their order (R148). For order 1 the rule does not say which of several
cavities is named; the model takes them in number order, as the rule does everywhere else (DESIGN CHOICE, log 19). -/
def secondPass (r : Recipe) : List FieldCheck :=
  cavityChecks r 5 (fun k => r.bottomZone.get k != r.topZone.get k)
    ++ ((List.finRange 8).filter fun k => r.enabled.get k).flatMap (fun k =>
        [(10, r.topZone.get k, r.setpointAt (r.topZone.get k) != 0),
         (10, r.bottomZone.get k, r.setpointAt (r.bottomZone.get k) != 0)])
    ++ zoneChecks 11 (fun z => decide (r.fallbackDuty.get z ≤ r.maxDuty.get z))
    ++ [(19, 0, decide (r.targetMin ≤ r.cureTarget) && decide (r.cureTarget ≤ r.targetMax))]

/-- The first failure of validation: its field number and index; none for a recipe that passes both passes (R148). -/
def Recipe.firstFailure (r : Recipe) : Option (Nat × Nat) :=
  ((firstPass r ++ secondPass r).find? fun c => !c.2.2).map fun c => (c.1, c.2.1)

/-! ### Readback items (R138) -/

/-- Whether a number is one of the item ids of R138. -/
def isItem (n : Nat) : Bool :=
  decide (n ≤ 11) || inRange n 16 27 || inRange n 32 39 || inRange n 40 43

/-! ### The entries of a settings write (R167, R168) -/

/-- The size of a settings field's value in bytes (R167). -/
def settingSize (field : Nat) : Nat := if field = 3 ∨ field = 4 then 12 else 2

/-- The payload split into entries (field number, value bytes); none where it does not divide exactly or a field number is
outside 1..20 (R168, order 1). `fuel` bounds the number of entries. -/
def splitEntries : Nat → List Byte → Option (List (Nat × List Byte))
  | _, [] => some []
  | 0, _ :: _ => none
  | fuel + 1, f :: rest =>
    if inRange f.toNat 1 20 && decide (settingSize f.toNat ≤ rest.length) then
      (splitEntries fuel (rest.drop (settingSize f.toNat))).map fun es =>
        (f.toNat, rest.take (settingSize f.toNat)) :: es
    else none

/-- Whether twelve values are distinct ranks, each 0..11 (R168, order 2). -/
def isPermutation12 (l : List Byte) : Bool :=
  (List.range 12).all fun r => decide ((l.countP fun b => b.toNat == r) = 1)

/-- Whether an entry passes orders 2 and 3 of R168. -/
def entryOk (e : Nat × List Byte) : Bool :=
  if e.1 = 3 then isPermutation12 e.2
  else if e.1 = 19 ∨ e.1 = 20 then isItem (wordAt e.2 0)
  else true

/-- The entries of a payload that passes the checks of R168; none where it is answered MALFORMED. -/
def settingsEntries (payload : List Byte) : Option (List (Nat × List Byte)) :=
  match splitEntries payload.length payload with
  | none => none
  | some es => if !es.isEmpty && decide ((es.map Prod.fst).Nodup) && es.all entryOk then some es else none

/-- The production-protected fields FIRING_RANK, STAGGER and INTERLOCK_PATTERN (R167). -/
def isProtected (field : Nat) : Bool := field == 3 || field == 4 || field == 15

/-- A value outside its range is replaced by the nearer end of the range (R168). -/
def clampTo (lo hi n : Nat) : Nat := if n < lo then lo else if hi < n then hi else n

/-- The range of a 2-byte field, as the table of R167 gives it. END_MARKER is 0 or 1; INTERLOCK_PATTERN, AUTO_A and AUTO_B
take every value that reaches them. -/
def settingRange (field : Nat) : Nat × Nat :=
  match field with
  | 1 | 2 => (0, 12)
  | 5 => (100, 10000)
  | 6 => (10, 500)
  | 7 => (1, 15)
  | 8 => (0, 65535)
  | 9 => (0, 4500)
  | 10 => (1, 1000)
  | 11 => (1, 14)
  | 12 => (100, 10000)
  | 13 | 14 => (0, 60000)
  | 16 => (1, 255)
  | 17 => (1, 32)
  | 18 => (0, 1)
  | _ => (0, 65535)

/-- The value an entry of 2 bytes applies: its number, clamped to the field's range. -/
def entryValue (e : Nat × List Byte) : Nat := clampTo (settingRange e.1).1 (settingRange e.1).2 (wordAt e.2 0)

/-- Whether an applied entry is listed as CLAMPED (R168). -/
def entryClamped (e : Nat × List Byte) : Bool :=
  if e.1 = 3 then false
  else if e.1 = 4 then e.2.any fun b => decide (99 < b.toNat)
  else entryValue e != wordAt e.2 0

/-- The settings record with one entry applied (R168). -/
def applyEntry (c : Settings) (e : Nat × List Byte) : Settings :=
  match e.1 with
  | 1 => { c with supplyLimit := entryValue e }
  | 2 => { c with holdLimit := entryValue e }
  | 3 => { c with firingRank := .ofFn fun z => byteAt e.2 z.val }
  | 4 => { c with stagger := .ofFn fun z => clampTo 0 99 (byteAt e.2 z.val) }
  | 5 => { c with sampleStaleMs := entryValue e }
  | 6 => { c with readyBand := entryValue e }
  | 7 => { c with readyDwell := entryValue e }
  | 8 => { c with idleLimit := entryValue e }
  | 9 => { c with setback := entryValue e }
  | 10 => { c with tareBand := entryValue e }
  | 11 => { c with tareCount := entryValue e }
  | 12 => { c with tareTimeout := entryValue e }
  | 13 => { c with tareLimit := entryValue e }
  | 14 => { c with emptyThreshold := entryValue e }
  | 15 => { c with interlockPattern := BitVec.ofNat 16 (wordAt e.2 0) }
  | 16 => { c with nd := entryValue e }
  | 17 => { c with ne := entryValue e }
  | 18 => { c with endMarker := entryValue e == 1 }
  | 19 => { c with autoA := entryValue e }
  | 20 => { c with autoB := entryValue e }
  | _ => c

/-- The 20 fields as reply values, in the order and sizes of R167 (R169). -/
def Settings.fields (c : Settings) : List ReplyField :=
  List.flatten
    [[.word c.supplyLimit, .word c.holdLimit], byteFields c.firingRank.toList, byteFields c.stagger.toList,
     wordFields [c.sampleStaleMs, c.readyBand, c.readyDwell, c.idleLimit, c.setback, c.tareBand, c.tareCount,
       c.tareTimeout, c.tareLimit, c.emptyThreshold, c.interlockPattern.toNat, c.nd, c.ne,
       if c.endMarker then 1 else 0, c.autoA, c.autoB]]

/-! ### The serialised part record (R142 to R144) -/

/-- The trace bytes after the first point: a small difference in one byte, any other point escaped and in full (R144). -/
def traceTail (last : Int) : List Int → List Byte
  | [] => []
  | p :: ps =>
    (if -127 ≤ p - last ∧ p - last ≤ 127 then [BitVec.ofInt 8 (p - last)] else 0x80#8 :: be2Signed p) ++ traceTail p ps

/-- The trace bytes (R144). -/
def traceBytes : List Int → List Byte
  | [] => []
  | p :: ps => be2Signed p ++ traceTail p ps

/-- The 4 bytes of a note: kind code, count, offset (R142). -/
def Note.bytes (n : Note) : List Byte := [BitVec.ofNat 8 n.kind.code, BitVec.ofNat 8 n.count] ++ be2 n.offset

/-- The attempts and override byte: bits 0..2 attempts, bit 6 time press-opened absent, bit 7 override (R142). -/
def PartRecord.attemptsByte (r : PartRecord) : Nat :=
  r.attempts % 8 + (if r.timePressOpened.isNone then 64 else 0) + (if r.override then 128 else 0)

/-- The bytes of a part record after its kind and length. -/
def PartRecord.body (r : PartRecord) : List Byte :=
  List.flatten
    [be2 r.shot, [BitVec.ofNat 8 r.cavity, BitVec.ofNat 8 r.recipe, BitVec.ofNat 8 r.verdict.code], be2 r.net,
     [BitVec.ofNat 8 r.attemptsByte], be2 r.targetAdj,
     be2 (match r.reached with | some n => min n 65534 | none => 65535),
     be2 (min r.finalCure 65535),
     (match r.peak with | some p => be2Signed p | none => [0x80#8, 0#8]),
     be2 r.scorch, be2 r.blind, be4 r.timeClosed.toNat,
     be4 (match r.timePressOpened with | some t => t.toNat | none => 0),
     be4 r.outcomeTime.toNat,
     [BitVec.ofNat 8 r.outcome.code, BitVec.ofNat 8 r.notesDropped, BitVec.ofNat 8 r.notes.length],
     r.notes.flatMap Note.bytes,
     [BitVec.ofNat 8 r.trace.length, BitVec.ofNat 8 r.traceInterval], traceBytes r.trace]

/-- The serialised part record: kind 1, its whole length, and its fields (R142). -/
def PartRecord.bytes (r : PartRecord) : List Byte := 1#8 :: (be2 (r.body.length + 3) ++ r.body)

end Sys2Proof.Machine
end

