-- ==== Sys2Proof/Machine/Flags.lean ====
section
/-! DEFINITION. The flags and the lines the part raises: notices with their attention lines (R163 to R165), CELL_FAULT
(R16), and the fault and warning flags of the records streamer (R136). -/

namespace Sys2Proof.Machine

/-- A port by its role. -/
def Ports.get (ps : Ports) : PortId → Port
  | .press => ps.press
  | .charge => ps.charge
  | .extract => ps.extract
  | .records => ps.records

/-- The ports with one of them replaced. -/
def Ports.set (ps : Ports) (p : PortId) (q : Port) : Ports :=
  match p with
  | .press => { ps with press := q }
  | .charge => { ps with charge := q }
  | .extract => { ps with extract := q }
  | .records => { ps with records := q }

/-- A port of the part. -/
def State.port (s : State) (p : PortId) : Port := s.ports.get p

/-- The state with one port replaced. -/
def State.setPort (s : State) (p : PortId) (q : Port) : State := { s with ports := s.ports.set p q }

/-- A notice kind put into a notice set, which is kept in the order of R163's table; a kind already there leaves the set
as it is (R164). -/
def insertNotice (k : NoticeKind) : List NoticeKind → List NoticeKind
  | [] => [k]
  | x :: xs =>
    if k = x then x :: xs
    else if k.code < x.code then k :: x :: xs
    else x :: insertNotice k xs

/-- A notice raised on a port: it joins the set, which is then not empty, so the attention line is asserted (R164). -/
def Port.raise (q : Port) (k : NoticeKind) : Port := { q with notices := insertNotice k q.notices, attention := true }

/-- A notice raised on a port of the part (R164). -/
def State.raise (s : State) (p : PortId) (k : NoticeKind) : State := s.setPort p ((s.port p).raise k)

/-- The fault flag of the records streamer is set (R136). -/
def State.setFault (s : State) : State := { s with streamer := { s.streamer with fault := true } }

/-- The warning flag of the records streamer is set (R136). -/
def State.setWarning (s : State) : State := { s with streamer := { s.streamer with warning := true } }

/-- CELL_FAULT on the press port and on the records port, with the fault flag (R16, R109). -/
def State.cellFault (s : State) : State := ((s.raise .press .cellFault).raise .records .cellFault).setFault

/-- The reply of a request given as a command of its own row (log 6). -/
def State.withReply (s : State) (p : PortId) (r : Reply) : State := { s with reply := some (p, r) }

/-- The outcome of a request's own row: the block's new state, and the reply to the port it came from (log 6). -/
def respond (p : PortId) (t : State × Reply) : Host.Outcome State Fault Refusal := .next (t.1.withReply p t.2)

end Sys2Proof.Machine
end

