-- ==== Sys2Proof/Machine/Ops.lean ====
section
/-! DEFINITION. The operations that several commands share: reading and writing rows and cavity slots, the recipe a row
names, the freeing of a row, notes, the due record and its way into the history ring, the platen's transitions, and the end
of a settle run. -/

namespace Sys2Proof.Machine

/-! ### Rows, cavity slots and recipes -/

/-- A cycle row. -/
def State.row (s : State) (i : Fin 8) : Row := s.rows.get i

/-- The state with one row replaced. -/
def State.setRow (s : State) (i : Fin 8) (r : Row) : State := { s with rows := s.rows.set i r }

/-- A cavity slot of a row. -/
def State.cavity (s : State) (i j : Fin 8) : Cavity := (s.row i).cavities.get j

/-- A row with one cavity slot changed. -/
def Row.modifyCavity (r : Row) (j : Fin 8) (f : Cavity → Cavity) : Row :=
  { r with cavities := r.cavities.modify j f }

/-- A row with every cavity slot changed. -/
def Row.mapCavities (r : Row) (f : Cavity → Cavity) : Row := { r with cavities := r.cavities.map f }

/-- The state with one cavity slot changed. -/
def State.modifyCavity (s : State) (i j : Fin 8) (f : Cavity → Cavity) : State :=
  s.setRow i ((s.row i).modifyCavity j f)

/-- The recipe a slot's contents hold; blank where they hold none (log 14). -/
def SlotImage.recipe : SlotImage → Recipe
  | .written r _ => r
  | .erased | .torn => Recipe.blank

/-- The recipe of a slot as it stands; while a write is in flight the slot keeps its former contents (R149). -/
def State.recipeAt (s : State) (k : Fin 8) : Recipe := (s.store.slots.get k).image.recipe

/-- The recipe of the slot a row names (R4). -/
def State.rowRecipe (s : State) (i : Fin 8) : Recipe :=
  match (s.row i).recipe with
  | some k => s.recipeAt k
  | none => Recipe.blank

/-- Whether a row is in use. -/
def Row.live (r : Row) : Bool := r.state != .free

/-- Whether every row is FREE. -/
def State.allFree (s : State) : Bool := s.rows.all fun r => !r.live

/-- The number of rows that are not FREE. -/
def State.liveCount (s : State) : Nat := s.rows.count Row.live

/-- The running recipe: the slot named by the rows that are not FREE (R4). -/
def State.runningRecipe (s : State) : Option (Fin 8) :=
  match s.rows.find Row.live with
  | some i => (s.row i).recipe
  | none => none

/-- The non-FREE row that holds a shot (R2). -/
def State.findShot (s : State) (shot : Nat) : Option (Fin 8) :=
  s.rows.find fun r => r.live && r.shot == some shot

/-- A request that names a shot: MALFORMED before any lookup, then UNKNOWN_SHOT, then its own rule on the row (R2). -/
def State.onShot (s : State) (shot : Nat) (k : Fin 8 → State × Reply) : State × Reply :=
  if shotOk shot then
    match s.findShot shot with
    | some i => k i
    | none => (s, .plain .unknownShot)
  else (s, .plain .malformed)

/-- A request that names a shot and a cavity (R2). -/
def State.onCavity (s : State) (shot cavity : Nat) (k : Fin 8 → Fin 8 → State × Reply) : State × Reply :=
  match index8 cavity with
  | some j => s.onShot shot fun i => k i j
  | none => (s, .plain .malformed)

/-- A part-bearing cavity is one whose charge state is CHARGED (R5). -/
def Cavity.partBearing (c : Cavity) : Bool := c.charge == .charged

/-- Tool-cleared: NOT_IN_TOOL, REMOVED or CLEARED (R22, R101). -/
def Cavity.toolCleared (c : Cavity) : Bool := c.tool == .notInTool || c.tool == .removed || c.tool == .cleared

/-- Recorded: RECORDED, or NOT_DUE on a cavity that never bore a part (R22). -/
def Cavity.isRecorded (c : Cavity) : Bool := c.record == .recorded || (c.record == .notDue && !c.partBearing)

/-! ### Freeing rows -/

/-- A younger row's rank falls by 1 when rank `gone` is withdrawn (R3). -/
def Row.closeRank (gone : Option Nat) (r : Row) : Row :=
  match gone, r.rank with
  | some g, some m => if g < m then { r with rank := some (m - 1) } else r
  | _, _ => r

/-- The weigh unit marks the run in flight and the last result of a freed row as orphaned (R95). -/
def WeighUnit.orphan (w : WeighUnit) (i : Fin 8) : WeighUnit :=
  { w with
    run := w.run.map fun run =>
      { run with ticket := run.ticket.map fun t => if t.row = i then { t with orphaned := true } else t }
    result := w.result.map fun r => if r.row = i then { r with orphaned := true } else r }

/-- The idle timer starts from the cell clock now (R38). -/
def State.startIdle (s : State) : State := { s with regulator := { s.regulator with idleTimer := some s.clock } }

/-- The idle timer starts when an event has left every row FREE (R23). -/
def State.tableEmptied (s : State) : State := if s.allFree then s.startIdle else s

/-- A row is freed to the condition of R1 and R5, the ranks of younger rows close up (R3), and its run and result are
orphaned (R95). -/
def State.clearRow (s : State) (i : Fin 8) : State :=
  { s with
    rows := (s.rows.map (Row.closeRank (s.row i).rank)).set i Row.freed
    weigh := s.weigh.orphan i }

/-- A row is freed, and the idle timer starts if it was the last (R23). -/
def State.freeRow (s : State) (i : Fin 8) : State := (s.clearRow i).tableEmptied

/-- The freeing condition of a row in OPENED: every cavity tool-cleared and recorded (R22). -/
def Row.freeable (r : Row) : Bool := r.state == .opened && r.cavities.all fun c => c.toolCleared && c.isRecorded

/-- The freeing condition is evaluated, and the row freed where it holds (R22). -/
def State.tryFree (s : State) (i : Fin 8) : State := if (s.row i).freeable then s.freeRow i else s

/-! ### The run table -/

/-- A run table entry changed. -/
def State.modifyRun (s : State) (k : Fin 8) (f : RunEntry → RunEntry) : State :=
  { s with runs := s.runs.modify k f }

/-- Reservations of the recipe a row names are released (R12). -/
def State.releaseReserved (s : State) (recipe : Option (Fin 8)) (n : Nat) : State :=
  match recipe with
  | some k => s.modifyRun k fun e => { e with reserved := e.reserved - n }
  | none => s

/-- The cavities of a row that an abort releases: AWAIT_CHARGE and CHARGED (R12, R13). -/
def Row.reservedCavities (r : Row) : Nat :=
  r.cavities.count fun c => c.charge == .awaitCharge || c.charge == .charged

/-! ### Notes -/

/-- A note given to a cavity: counted in its entry, appended, or counted as dropped; discarded once the record is due
(R119). -/
def Cavity.giveNote (kind : NoteKind) (offset : Nat) (c : Cavity) : Cavity :=
  if c.record != .notDue then c
  else if c.notes.any fun n => n.kind == kind then
    { c with notes := c.notes.map fun n => if n.kind = kind then { n with count := min (n.count + 1) 255 } else n }
  else if c.notes.length < Config.noteSlots then
    { c with notes := c.notes ++ [{ kind := kind, count := 1, offset := offset }] }
  else { c with notesDropped := min (c.notesDropped + 1) 255 }

/-- The clock-based offset of a note: seconds from the row's time closed, saturated (R120). -/
def noteOffset (now : Clock) (r : Row) : Nat :=
  match r.timeClosed with
  | some t => min (elapsed now t / 1000) 65535
  | none => 0

/-! ### Due records and the history ring -/

/-- The verdict: the first condition in R123's order that holds at due time. -/
def verdictOf (r : Recipe) (c : Cavity) (outcome : ToolOutcome) : Verdict :=
  if c.cure = .forced then .forced
  else if outcome = .stuck then .stuck
  else if outcome = .abandoned then .abandoned
  else if c.scorch > r.scorchAllowance then .scorched
  else if c.cure = .timedOut then .undercure
  else if c.blind > r.blindAllowance then .suspect
  else if (c.chargeRec.map ChargeRecord.override).getD false then .outOfTolerance
  else .good

/-- The record frozen at due time (R122). -/
def State.freeze (s : State) (i j : Fin 8) (outcome : ToolOutcome) : PartRecord :=
  let row := s.row i
  let c := s.cavity i j
  let r := s.rowRecipe i
  { shot := row.shot.getD 0
    cavity := j.val
    recipe := (row.recipe.map Fin.val).getD 0
    verdict := verdictOf r c outcome
    net := (c.chargeRec.map ChargeRecord.net).getD 0
    attempts := (c.chargeRec.map ChargeRecord.attempts).getD 0
    override := (c.chargeRec.map ChargeRecord.override).getD false
    targetAdj := c.targetAdj.getD 0
    reached := c.reached
    finalCure := c.acc / 256
    peak := c.peak
    scorch := c.scorch
    blind := c.blind
    timeClosed := row.timeClosed.getD 0
    timePressOpened := row.timePressOpened
    outcomeTime := s.clock
    outcome := outcome
    notes := c.notes
    notesDropped := c.notesDropped
    trace := c.trace
    traceInterval := r.traceInterval }

/-- RUN_COMPLETE on the press, charge and records ports (R125). -/
def State.raiseRunComplete (s : State) : State :=
  ((s.raise .press .runComplete).raise .charge .runComplete).raise .records .runComplete

/-- The run table entry after a due record of a verdict (R124). -/
def RunEntry.account (e : RunEntry) (v : Verdict) : RunEntry :=
  { e with
    reserved := e.reserved - 1
    remaining := if e.mode = .counted ∧ v = .good then e.remaining - 1 else e.remaining }

/-- Whether the run accounting lowers remaining to 0 (R125). -/
def RunEntry.completes (e : RunEntry) (v : Verdict) : Bool :=
  e.mode == .counted && v == .good && e.remaining == 1

/-- The run accounting of a due record (R124, R125). -/
def State.accountRun (s : State) (recipe : Option (Fin 8)) (v : Verdict) : State :=
  match recipe with
  | some k =>
    let s' := s.modifyRun k fun e => e.account v
    if (s.runs.get k).completes v then s'.raiseRunComplete else s'
  | none => s

/-- A record enters the ring as its newest; RING_HIGH where the undelivered count rises from 47 to 48 (R128, R130). -/
def State.enterRing (s : State) (r : PartRecord) : State :=
  let s' := { s with ring := s.ring ++ [r] }
  if s.ring.length + 1 = Config.ringHigh then s'.raise .records .ringHigh else s'

/-- A frozen record is placed: in the ring, or in the record queue where the ring holds 64 (R126). -/
def State.placeRecord (s : State) (i j : Fin 8) (r : PartRecord) : State :=
  if s.ring.length < Config.ringSlots then
    (s.modifyCavity i j fun c => { c with record := .recorded }).enterRing r
  else
    { s.modifyCavity i j (fun c => { c with record := .queued, frozen := some r }) with
      recordQueue := s.recordQueue ++ [(i, j)] }

/-- A cavity's record becomes due: frozen, given its verdict, accounted and placed (R121). -/
def State.recordDue (s : State) (i j : Fin 8) (outcome : ToolOutcome) : State :=
  let r := s.freeze i j outcome
  let s₁ := s.modifyCavity i j fun c => { c with verdict := some r.verdict }
  let s₂ := s₁.accountRun (s.row i).recipe r.verdict
  s₂.placeRecord i j r

/-- A QUEUED cavity's frozen record enters the ring and leaves the slot (R118, R129). -/
def State.recordQueued (s : State) (i j : Fin 8) : State :=
  let s' := s.modifyCavity i j fun c => { c with record := .recorded, frozen := none }
  match (s.cavity i j).frozen with
  | some r => s'.enterRing r
  | none => s'

/-- The oldest record has been sent: it leaves the ring, and the head of the record queue takes the freed slot (R129). -/
def State.recordSent (s : State) : State :=
  let s' := { s with ring := s.ring.tail }
  match s.recordQueue with
  | [] => s'
  | (i, j) :: rest => ({ s' with recordQueue := rest }.recordQueued i j).tryFree i

/-! ### The tool -/

/-- A cavity leaves the tool: the uncleared count falls, and TOOL_CLEAR is raised when it reaches 0 (R102, R116). -/
def State.lowerUncleared (s : State) : State :=
  let s' := { s with extraction := { s.extraction with uncleared := s.extraction.uncleared - 1 } }
  if s.extraction.uncleared = 1 then s'.raise .press .toolClear else s'

/-! ### The platen -/

/-- The close-permit flag of a CHARGED row is cleared (R15, R37). -/
def Row.clearPermit (r : Row) : Row := if r.state = .charged then { r with permit := false } else r

/-- The platen leaves READY: PLATEN_NOT_READY, and the close-permit flag of every CHARGED row is cleared (R37). From any
other state nothing follows. -/
def State.leaveReady (s : State) : State :=
  if s.regulator.platen = .ready then
    { s.raise .press .platenNotReady with rows := s.rows.map Row.clearPermit }
  else s

/-- The platen enters a state with dwell count 0 (R31), leaving READY as R37 gives. -/
def State.enterPlaten (s : State) (p : PlatenState) (recipe : Option (Fin 8)) : State :=
  let s' := s.leaveReady
  { s' with regulator := { s'.regulator with platen := p, platenRecipe := recipe, dwell := 0 } }

/-- The allocator drops every owed slot and deferred flag and turns every output off at once (R59). -/
def FiringZone.dropped (z : FiringZone) : FiringZone := { z with owed := 0, deferred := false, output := false }

/-- The platen enters OFF and its recipe becomes absent: last duties and integrals go to 0, and the allocator is told
(R33, R41, R59). -/
def State.enterOff (s : State) : State :=
  let s' := s.enterPlaten .off none
  { s' with
    regulator := { s'.regulator with zones := s'.regulator.zones.map fun z => { z with duty := 0, integral := 0 } }
    firing := { s'.firing with zones := s'.firing.zones.map FiringZone.dropped } }

/-- The expiry of a running idle timer: it stops, and a WARMING or READY platen enters STANDBY, keeping its recipe
(R39). -/
def State.idleExpire (s : State) : State :=
  let s' := { s with regulator := { s.regulator with idleTimer := none } }
  if s.regulator.platen = .warming ∨ s.regulator.platen = .ready then
    s'.enterPlaten .standby s.regulator.platenRecipe
  else s'

/-- Whether the running idle timer has reached IDLE_LIMIT, which 0 holds off (R38). -/
def State.idleReached (s : State) : Bool :=
  match s.regulator.idleTimer with
  | some t => s.settings.idleLimit != 0 && decide (s.settings.idleLimit ≤ elapsed s.clock t / 1000)
  | none => false

/-! ### The release of a row -/

/-- The release condition: every part-bearing cavity REACHED or TIMED_OUT (R6). -/
def Row.released (r : Row) : Bool :=
  r.cavities.all fun c => !c.partBearing || c.cure == .reached || c.cure == .timedOut

/-- A row enters RELEASABLE: its row timer stops and RELEASABLE is raised on the press port (R6). -/
def State.enterReleasable (s : State) (i : Fin 8) : State :=
  (s.setRow i { s.row i with state := .releasable, rowTimer := none }).raise .press .releasable

/-- The release condition of a row in CURING is evaluated (R6). -/
def State.tryRelease (s : State) (i : Fin 8) : State :=
  if (s.row i).state = .curing ∧ (s.row i).released then s.enterReleasable i else s

/-! ### The end of a settle run -/

/-- How a settle run ends (R88). -/
inductive RunEnd where
  | settled (value : Nat)
  | overload
  | unstable
  | cancelled
  deriving DecidableEq, Repr

/-- The class of a settled run, from its net weight (R93). -/
def weighClass (emptyThreshold : Nat) (t : WeighTicket) (net : Nat) : WeighClass :=
  if net < emptyThreshold then .emptyPan
  else if (net : Int) < (t.nominal : Int) - t.tolLow then .light
  else if t.nominal + t.tolHigh < net then .heavy
  else .accept

/-- The weigh unit after a tare run has ended (R90). -/
def WeighUnit.completeTare (w : WeighUnit) (tareLimit : Nat) : RunEnd → WeighUnit
  | .settled v =>
    if v ≤ tareLimit then { w with run := none, tare := some v, tareOutcome := some (.tared, some v) }
    else { w with run := none, tareOutcome := some (.tareReject, some v) }
  | .overload => { w with run := none, tareOutcome := some (.overload, none) }
  | .unstable => { w with run := none, tareOutcome := some (.unstable, none) }
  | .cancelled => { w with run := none, tareOutcome := some (.cancelled, none) }

/-- The weigh result record of an ended weigh run (R93). -/
def weighResultOf (run : SettleRun) (t : WeighTicket) (tare emptyThreshold : Nat) (now : Clock) (e : RunEnd) :
    WeighResult :=
  let base : WeighResult :=
    { shot := t.shot, cavity := t.cavity, row := t.row, gross := none, net := none, cls := .cancelled,
      attempt := t.attempt, samples := run.samples, time := now, admitted := false, orphaned := t.orphaned }
  match e with
  | .settled v => { base with gross := some v, net := some (v - tare), cls := weighClass emptyThreshold t (v - tare) }
  | .overload => { base with cls := .overload }
  | .unstable => { base with cls := .unstable }
  | .cancelled => base

/-- The run in flight ends: a tare run by R90 with TARE_DONE, a weigh run by R93 with WEIGH_DONE. Without a run nothing
follows. -/
def State.endRun (s : State) (e : RunEnd) : State :=
  match s.weigh.run with
  | none => s
  | some run =>
    match run.ticket with
    | none => { s with weigh := s.weigh.completeTare s.settings.tareLimit e }.raise .charge .tareDone
    | some t =>
      { s with
        weigh := { s.weigh with
          run := none
          result := some (weighResultOf run t (s.weigh.tare.getD 0) s.settings.emptyThreshold s.clock e) } }.raise
        .charge .weighDone

end Sys2Proof.Machine
end

