-- ==== Sys2Proof/Machine/Firing.lean ====
section
/-! DEFINITION. The frame start of the zone regulator and the firing allocator: age test, setpoints, duties, the close and
opening of a firing frame, the supply arbiter, the ready test; SLOT_START and MAINS_HOLD_CHANGE (chapters 2 and 3). -/

namespace Sys2Proof.Machine

/-! ### The age test and the setpoints -/

/-- Whether a zone's last sample is older than SAMPLE_STALE_MS (R29). -/
def Zone.tooOld (now : Clock) (staleMs : Nat) (z : Zone) : Bool :=
  match z.arrival with
  | some t => decide (staleMs < elapsed now t)
  | none => false

/-- Whether the age test makes a zone STALE (R29). -/
def Zone.goesStale (now : Clock) (staleMs : Nat) (z : Zone) : Bool := z.sensor == .ok && z.tooOld now staleMs

/-- The age test of a frame start: OK zones too old become STALE, which sets the fault flag (R29). -/
def State.ageTest (s : State) : State :=
  let stale := Zone.goesStale s.clock s.settings.sampleStaleMs
  let s' := { s with
    regulator := { s.regulator with
      zones := s.regulator.zones.map fun z => if stale z then { z with sensor := .stale } else z } }
  if s.regulator.zones.any stale then s'.setFault else s'

/-- The platen recipe's contents; blank while it is absent. -/
def State.platenRecipeFields (s : State) : Recipe :=
  match s.regulator.platenRecipe with
  | some k => s.recipeAt k
  | none => Recipe.blank

/-- The setpoint in force of a zone (R30). -/
def setpointFor (p : PlatenState) (working setback : Nat) : Nat :=
  match p with
  | .off => 0
  | .warming | .ready => working
  | .standby => if working = 0 then 0 else setback

/-- Every zone's setpoint in force is set from the platen state and the platen recipe (R30). -/
def State.setSetpoints (s : State) : State :=
  let r := s.platenRecipeFields
  { s with
    regulator := { s.regulator with
      zones := s.regulator.zones.mapIdx fun i z =>
        { z with setpoint := setpointFor s.regulator.platen (r.setpoint.get i) s.settings.setback } } }

/-! ### The duty computation -/

/-- The error of a regulated zone, clamped to −2000..2000 (R46, step 1). -/
def dutyError (setpoint : Nat) (reading : Int) : Int := max (-2000) (min 2000 ((setpoint : Int) - reading))

/-- The candidate integral I′ (R46, step 3). -/
def candidateIntegral (ki integral : Nat) (e : Int) : Int := integral + ki * e

/-- The raw duty P + I′ div 100, both divisions toward zero (R46, steps 2 and 4). -/
def rawDuty (kp ki integral : Nat) (e : Int) : Int :=
  (kp * e).tdiv 100 + (candidateIntegral ki integral e).tdiv 100

/-- Whether the integral keeps its old value: the duty is pinned at a clamp by the same error (R47). -/
def integralHeld (raw : Int) (maxDuty : Nat) (e : Int) : Bool :=
  (decide ((maxDuty : Int) < raw) && decide (0 < e)) || (decide (raw < 0) && decide (e < 0))

/-- The integral accumulator after a regulated zone's duty (R47). -/
def nextIntegral (kp ki maxDuty integral : Nat) (e : Int) : Nat :=
  if integralHeld (rawDuty kp ki integral e) maxDuty e then integral
  else (max 0 (min 10000 (candidateIntegral ki integral e))).toNat

/-- The duty and the integral of a zone with a usable reading not above its cutback level (R46, R47). -/
def Zone.regulate (r : Recipe) (maxDuty : Nat) (reading : Int) (z : Zone) : Zone :=
  let e := dutyError z.setpoint reading
  { z with
    duty := (max 0 (min (maxDuty : Int) (rawDuty r.kp r.ki z.integral e))).toNat
    integral := nextIntegral r.kp r.ki maxDuty z.integral e }

/-- The duty computation of one zone (R43 to R47). -/
def Zone.computeDuty (r : Recipe) (i : Fin 12) (z : Zone) : Zone :=
  if z.setpoint = 0 then { z with duty := 0, integral := 0 }
  else if z.sensor ≠ .ok then { z with duty := r.fallbackDuty.get i }
  else match z.reading with
    | none => { z with duty := r.fallbackDuty.get i }
    | some t =>
      if t > z.setpoint + r.cutbackBand then { z with duty := 0 }
      else z.regulate r (r.maxDuty.get i) t

/-- The duties of all twelve zones (R42, step 3). -/
def State.computeDuties (s : State) : State :=
  let r := s.platenRecipeFields
  { s with regulator := { s.regulator with zones := s.regulator.zones.mapIdx (Zone.computeDuty r) } }

/-! ### The close of a frame -/

/-- The shortfall written into a zone record at the close (R60). -/
def Zone.addShortfall (n : Nat) (z : Zone) : Zone :=
  { z with shortfall := n, totalShortfall := min (z.totalShortfall + n) Config.countMax }

/-- The sum of the twelve shortfalls of the frame in progress. -/
def Firing.owedTotal (f : Firing) : Nat := (f.zones.toList.map FiringZone.owed).sum

/-- SUPPLY_SHORTFALL to each CURING cavity of a row over a zone that fell short (R61). -/
def Row.noteShortfall (now : Clock) (r : Recipe) (owed : Nat → Nat) (row : Row) : Row :=
  { row with
    cavities := row.cavities.mapIdx fun j c =>
      if c.cure = .curing ∧ (0 < owed (r.topZone.get j) ∨ 0 < owed (r.bottomZone.get j)) then
        c.giveNote .supplyShortfall (noteOffset now row)
      else c }

/-- The consequences of a shortfall: the warning flag, and the notes of the starved cavities (R61). -/
def State.shortfallNotes (s : State) : State :=
  let owed := fun z => at12 (s.firing.zones.map FiringZone.owed) z 0
  { s with rows := s.rows.mapIdx fun i (row : Row) => row.noteShortfall s.clock (s.rowRecipe i) owed }.setWarning

/-- The frame in progress is closed: shortfalls to the zone records and the cell total, and their consequences (R60,
R61). -/
def State.closeFrame (s : State) : State :=
  if s.firing.slot.isSome then
    let s₁ := { s with
      regulator := { s.regulator with
        zones := s.regulator.zones.mapIdx fun i z => z.addShortfall (s.firing.zones.get i).owed }
      firing := { s.firing with
        cellShortfall := min (s.firing.cellShortfall + s.firing.owedTotal) Config.countMax } }
    if 0 < s.firing.owedTotal then s₁.shortfallNotes else s₁
  else s

/-! ### The opening of a frame and the supply arbiter -/

/-- Whether a slot lies in a zone's window, which wraps within the frame (R53). -/
def FiringZone.inWindow (slot : Nat) (z : FiringZone) : Bool :=
  decide (((slot : Int) - z.windowStart) % 100 < z.frameDuty)

/-- Whether a zone is a candidate in a slot (R55). -/
def FiringZone.candidate (slot : Nat) (z : FiringZone) : Bool :=
  decide (0 < z.owed) && (z.inWindow slot || z.deferred)

/-- The number of candidates that go before a zone by FIRING_RANK (R56). -/
def candidatesBefore (rank : Vec Nat 12) (zones : Vec FiringZone 12) (slot : Nat) (i : Fin 12) : Nat :=
  (List.finRange 12).countP fun k => (zones.get k).candidate slot && decide (rank.get k < rank.get i)

/-- Whether a zone is granted a slot: a candidate within the first limit-in-force places of the ranking (R56). -/
def granted (rank : Vec Nat 12) (zones : Vec FiringZone 12) (limit slot : Nat) (i : Fin 12) : Bool :=
  (zones.get i).candidate slot && decide (candidatesBefore rank zones slot i < limit)

/-- A zone after the arbitration of a slot (R56). -/
def FiringZone.arbitrated (isCandidate isGranted : Bool) (z : FiringZone) : FiringZone :=
  { z with
    owed := if isGranted then z.owed - 1 else z.owed
    deferred := z.deferred || (isCandidate && !isGranted)
    output := isGranted }

/-- The limit that a slot start takes (R54). -/
def State.supplyLimitNow (s : State) : Nat :=
  if s.pins.mainsHold then s.settings.holdLimit else s.settings.supplyLimit

/-- A firing slot starts: the limit in force is taken, and the slot is arbitrated (R54 to R58). -/
def State.startSlot (s : State) (k : Nat) : State :=
  { s with
    firing := { s.firing with
      slot := some k
      slotTimer := Config.slotPeriod
      limit := s.supplyLimitNow
      zones := s.firing.zones.mapIdx fun i z =>
        z.arbitrated (z.candidate k) (granted s.settings.firingRank s.firing.zones s.supplyLimitNow k i) } }

/-- The new frame opens on the duties handed over, and its slot 0 starts (R49, R52). -/
def State.openFrame (s : State) : State :=
  { s with
    firing := { s.firing with
      zones := s.firing.zones.mapIdx fun i (z : FiringZone) =>
        { z with
          frameDuty := (s.regulator.zones.get i).duty
          windowStart := s.settings.stagger.get i
          owed := (s.regulator.zones.get i).duty
          deferred := false } } }.startSlot 0

/-! ### The ready test -/

/-- Whether a zone passes the ready test; a zone the platen recipe does not use takes no part (R35). -/
def Zone.readyOk (working band : Nat) (z : Zone) : Bool :=
  working == 0 ||
    (z.sensor == .ok &&
      match z.reading with
      | some t => decide ((z.setpoint : Int) - band ≤ t) && decide (t ≤ (z.setpoint : Int) + band)
      | none => false)

/-- Whether the ready test passes (R35). -/
def State.readyPasses (s : State) : Bool :=
  (List.finRange 12).all fun i =>
    (s.regulator.zones.get i).readyOk (s.platenRecipeFields.setpoint.get i) s.settings.readyBand

/-- The ready test of a frame start, in WARMING or READY (R35, R36). -/
def State.readyTest (s : State) : State :=
  match s.regulator.platen with
  | .warming =>
    if s.readyPasses then
      let s' := { s with regulator := { s.regulator with dwell := s.regulator.dwell + 1 } }
      if s.settings.readyDwell ≤ s.regulator.dwell + 1 then
        { s' with regulator := { s'.regulator with platen := .ready } }.raise .press .platenReady
      else s'
    else { s with regulator := { s.regulator with dwell := 0 } }
  | .ready => if s.readyPasses then s else (s.enterPlaten .warming s.regulator.platenRecipe).setWarning
  | .off | .standby => s

/-! ### The commands -/

/-- The frame timer expires: the five steps of R42, the close of the old frame being the first part of the opening of the
new (R50, R52). -/
def execFrameStart (s : State) : Host.Outcome State Fault Refusal :=
  let s₁ := { s with firing := { s.firing with frameTimer := Config.framePeriod } }
  .next (s₁.ageTest.setSetpoints.computeDuties.closeFrame.openFrame.readyTest)

/-- A firing slot after slot 0 starts (R54 to R56). Without a frame in progress no slot starts, and slot 99 is the last
(R50): then nothing follows (log 15). -/
def execSlotStart (s : State) : Host.Outcome State Fault Refusal :=
  match s.firing.slot with
  | some k => if k < 99 then .next (s.startSlot (k + 1)) else .next s
  | none => .next s

/-- The mains-hold input takes a level, which the next slot start reads (R54, R63). -/
def execMainsHoldChange (level : Bool) (s : State) : Host.Outcome State Fault Refusal :=
  .next { s with pins := { s.pins with mainsHold := level } }

end Sys2Proof.Machine
end

