-- ==== Sys2Proof/Machine/Cure.lean ====
section
/-! DEFINITION. The cure step: cavity temperature, rate factor, accumulation and bookkeeping (chapter 4). -/

namespace Sys2Proof.Machine

/-- The reading of a zone that is usable at a cure step: OK, and not older than SAMPLE_STALE_MS (R67). -/
def Zone.usable (now : Clock) (staleMs : Nat) (z : Zone) : Option Int :=
  if z.sensor = .ok ∧ z.tooOld now staleMs = false then z.reading else none

/-- The usable reading of a zone named by number. -/
def State.usableReading (s : State) (z : Nat) : Option Int :=
  at12 (s.regulator.zones.map (Zone.usable s.clock s.settings.sampleStaleMs)) z none

/-- The cavity temperature from the usable readings of its two zones; none at a blind step (R68 to R70). -/
def cavityTemperature (offset : Int) : Option Int → Option Int → Option Int
  | some a, some b => some ((a + b).tdiv 2 + offset)
  | some a, none => some (a + offset)
  | none, some b => some (b + offset)
  | none, none => none

/-- The note of a step on fewer than two zones (R69, R70). -/
def temperatureNote : Option Int → Option Int → Option NoteKind
  | some _, some _ => none
  | none, some _ => some .zoneFaultTop
  | some _, none => some .zoneFaultBottom
  | none, none => some .blind

/-- An entry of the cure table. -/
def Recipe.rateAt (r : Recipe) (i : Nat) : Nat := if h : i < 16 then r.rate.get ⟨i, h⟩ else 0

/-- The rate factor at a cavity temperature (R71). -/
def rateFactor (r : Recipe) (theta : Int) : Nat :=
  let o := theta - r.base
  if o < 0 then 0
  else
    let i := o.toNat / r.width
    let f := o.toNat % r.width
    if 15 ≤ i then r.rateAt 15
    else ((r.rateAt i : Int) + (((r.rateAt (i + 1) : Int) - r.rateAt i) * f).tdiv r.width).toNat

/-- A note given where there is one. -/
def Cavity.giveNote? (kind : Option NoteKind) (offset : Nat) (c : Cavity) : Cavity :=
  match kind with
  | some k => c.giveNote k offset
  | none => c

/-- Stage 3: the factor is added, saturating (R73). -/
def Cavity.accumulate (factor : Nat) (c : Cavity) : Cavity := { c with acc := min (c.acc + factor) Config.accMax }

/-- The cure-reached test of a CURING cavity at step `n` (R74). -/
def Cavity.reachTest (n : Nat) (c : Cavity) : Cavity :=
  if c.cure = .curing ∧ c.targetAdj.getD 0 * 256 ≤ c.acc then { c with cure := .reached, reached := some n } else c

/-- The peak takes a greater temperature (R75). -/
def Cavity.updatePeak (theta : Int) (c : Cavity) : Cavity :=
  match c.peak with
  | some p => if p < theta then { c with peak := some theta } else c
  | none => { c with peak := some theta }

/-- The scorch count rises at a temperature above SCORCH_TEMP (R76). -/
def Cavity.countScorch (scorchTemp theta : Int) (c : Cavity) : Cavity :=
  if scorchTemp < theta then { c with scorch := min (c.scorch + 1) Config.countMax } else c

/-- A trace point that is due at step `n`: appended, or dropped with the mark and the note the first time (R77). -/
def Cavity.tracePoint (n : Nat) (theta : Int) (c : Cavity) : Cavity :=
  if c.trace.length < Config.tracePoints then { c with trace := c.trace ++ [theta] }
  else if c.traceFull then c
  else { c.giveNote .traceTruncated n with traceFull := true }

/-- A cavity slot through one cure step, `n` being the row's elapsed cure seconds after the rise and `top` and `bottom`
the usable readings of its zones (R66 to R79). -/
def Cavity.cureStep (r : Recipe) (n : Nat) (offset : Int) (top bottom : Option Int) (c : Cavity) : Cavity :=
  if c.cure = .curing ∨ c.cure = .reached then
    let c₁ := c.giveNote? (temperatureNote top bottom) n
    match cavityTemperature offset top bottom with
    | none => { c₁ with blind := min (c₁.blind + 1) Config.countMax }.reachTest n
    | some theta =>
      let c₂ := ((c₁.accumulate (rateFactor r theta)).reachTest n).updatePeak theta
      let c₃ := c₂.countScorch r.scorchTemp theta
      if n % r.traceInterval = 0 then c₃.tracePoint n theta else c₃
  else c

/-- A row through one cure step: the elapsed cure seconds rise and every cavity is taken (R9, R66). -/
def Row.cureStep (r : Recipe) (reading : Nat → Option Int) (row : Row) : Row :=
  let n := min (row.elapsed + 1) Config.countMax
  { row with
    elapsed := n
    stepTimer := some Config.stepPeriod
    cavities := row.cavities.mapIdx fun j c =>
      c.cureStep r n (r.offset.get j) (reading (r.topZone.get j)) (reading (r.bottomZone.get j)) }

/-- The step timer of a row expires: one cure step, after which the release condition of a row in CURING is evaluated
(R9, R66, R74). A stopped timer does not expire (log 15). -/
def execCureStep (i : Fin 8) (s : State) : Host.Outcome State Fault Refusal :=
  if (s.row i).stepTimer.isSome then
    .next ((s.setRow i ((s.row i).cureStep (s.rowRecipe i) s.usableReading)).tryRelease i)
  else .next s

end Sys2Proof.Machine
end

