-- ==== Sys2Proof/Machine/CycleTable.lean ====
section
/-! DEFINITION. The cycle table's requests and reports: OPEN_CYCLE, ABORT_CYCLE, CLOSE_PERMIT, CLOSED, OPENED,
RELEASE_QUERY, CELL_CLEAR, and the expiry of MAX_CURE (chapter 1). -/

namespace Sys2Proof.Machine

/-! ### OPEN_CYCLE -/

/-- Whether a write to the slot is in flight (R10, R32, R153). -/
def State.writingTo (s : State) (k : Fin 8) : Bool :=
  match s.store.write with
  | some w => w.slot == k
  | none => false

/-- Whether a non-FREE row names another recipe slot (R10 order 5, R32 order 2). -/
def State.conflictsWith (s : State) (k : Fin 8) : Bool := s.rows.any fun r => r.live && r.recipe != some k

/-- The cavities that may still be opened within a run: remaining − reserved when COUNTED, without bound otherwise
(R11). -/
def RunEntry.room (e : RunEntry) : Nat := if e.mode = .counted then e.remaining - e.reserved else 8

/-- The `n` lowest-numbered cavities of a set (R11, step 2). -/
def lowestOf (v : Vec Bool 8) (n : Nat) : Vec Bool 8 :=
  .ofFn fun j => v.get j && decide (((List.finRange 8).countP fun k => decide (k < j) && v.get k) < n)

/-- A newly opened row: the chosen cavities AWAIT_CHARGE, every other EMPTY (R11, steps 1, 3 and 7). -/
def openedRow (shot : Nat) (k : Fin 8) (rank : Nat) (now : Clock) (chosen : Vec Bool 8) : Row :=
  { Row.freed with
    state := .open_
    shot := some shot
    recipe := some k
    rank := some rank
    timeOpened := some now
    cavities := chosen.map fun b => if b then { Cavity.freed with charge := .awaitCharge } else Cavity.freed }

/-- The platen step of an accepted OPEN_CYCLE (R11 step 5, R34). -/
def State.warmFor (s : State) (k : Fin 8) : State :=
  if s.regulator.platen = .off ∨ s.regulator.platen = .standby ∨ s.regulator.platenRecipe ≠ some k then
    s.enterPlaten .warming (some k)
  else s

/-- The idle timer stops (R38). -/
def State.stopIdle (s : State) : State := { s with regulator := { s.regulator with idleTimer := none } }

/-- An accepted OPEN_CYCLE takes row `i` (R11). -/
def State.openRow (s : State) (i k : Fin 8) (shot : Nat) : State × Reply :=
  let chosen := lowestOf (s.recipeAt k).enabled (s.runs.get k).room
  let n := chosen.count id
  let s₁ := s.setRow i (openedRow shot k (s.liveCount + 1) s.clock chosen)
  let s₂ := s₁.modifyRun k fun e => { e with reserved := e.reserved + n }
  (((s₂.warmFor k).raise .charge .cycleOpened).stopIdle, { code := .done, fields := [.byte i.val, .byte n] })

/-- OPEN_CYCLE(shot, recipe): the checks of R10 in their order, then R11. -/
def takeOpenCycle (shot recipe : Nat) (s : State) : State × Reply :=
  match shotOk shot, index8 recipe with
  | true, some k =>
    if (s.findShot shot).isSome then (s, .plain .duplicateShot)
    else if s.writingTo k then (s, .plain .busy)
    else if (s.store.slots.get k).validity ≠ .valid then (s, .plain .recipeInvalid)
    else if s.conflictsWith k then (s, .plain .recipeConflict)
    else if (s.runs.get k).mode = .unset then (s, .plain .noRun)
    else match s.rows.find fun r => !r.live with
      | none => (s, .plain .tableFull)
      | some i =>
        if (s.runs.get k).mode = .counted ∧ (s.runs.get k).remaining - (s.runs.get k).reserved = 0 then
          (s, .plain .runComplete)
        else s.openRow i k shot
  | _, _ => (s, .plain .malformed)

/-- OPEN_CYCLE as a command of its own row. -/
def execOpenCycle (shot recipe : Nat) (s : State) : Host.Outcome State Fault Refusal :=
  respond .press (takeOpenCycle shot recipe s)

/-! ### ABORT_CYCLE -/

/-- ABORT_CYCLE(shot) (R13): the reservations of the row's AWAIT_CHARGE and CHARGED cavities are released and the row is
freed. -/
def takeAbortCycle (shot : Nat) (s : State) : State × Reply :=
  s.onShot shot fun i =>
    if (s.row i).state = .open_ ∨ (s.row i).state = .charged then
      ((s.releaseReserved (s.row i).recipe (s.row i).reservedCavities).freeRow i, .plain .done)
    else (s, .plain .wrongState)

/-- ABORT_CYCLE as a command of its own row. -/
def execAbortCycle (shot : Nat) (s : State) : Host.Outcome State Fault Refusal :=
  respond .press (takeAbortCycle shot s)

/-! ### CLOSE_PERMIT -/

/-- Whether some row other than `i` meets `p`. -/
def State.anyOther (s : State) (i : Fin 8) (p : Row → Bool) : Bool :=
  (List.finRange 8).any fun k => k != i && p (s.row k)

/-- Whether a row occupies the press: CURING or RELEASABLE (R14, R16). -/
def Row.inPress (r : Row) : Bool := r.state == .curing || r.state == .releasable

/-- The reason for which a CLOSE_PERMIT of row `i` is denied, the first in R14's order that holds. -/
def State.closeDenied (s : State) (i : Fin 8) : Option DenyReason :=
  if (s.row i).state ≠ .charged then some .notCharged
  else if s.regulator.platen ≠ .ready then some .platenNotReady
  else if s.anyOther i fun r => r.live && r.cavities.any fun c => !c.toolCleared then some .toolNotClear
  else if s.anyOther i Row.inPress then some .pressBusy
  else none

/-- CLOSE_PERMIT(shot) (R14). -/
def takeClosePermit (shot : Nat) (s : State) : State × Reply :=
  s.onShot shot fun i =>
    match s.closeDenied i with
    | some why => (s, .deny why)
    | none => (s.setRow i { s.row i with permit := true }, .plain .granted)

/-- CLOSE_PERMIT as a command of its own row. -/
def execClosePermit (shot : Nat) (s : State) : Host.Outcome State Fault Refusal :=
  respond .press (takeClosePermit shot s)

/-! ### CLOSED -/

/-- A cavity slot when the press closes on its row: AWAIT_CHARGE becomes VOID; a part-bearing cavity is IN_TOOL and CURING
with its accumulator at 0, noted where the close-permit flag was clear (R17, steps 2 to 4). -/
def Cavity.close (permit : Bool) (c : Cavity) : Cavity :=
  match c.charge with
  | .awaitCharge => { c with charge := .void }
  | .charged =>
    let c' := if permit then c else c.giveNote .unpermittedClose 0
    { c' with tool := .inTool, cure := .curing, acc := 0 }
  | .empty | .void => c

/-- The row on which the press has closed (R17, steps 1 to 6). -/
def Row.close (r : Row) (now : Clock) (maxCure : Nat) : Row :=
  { r with
    state := .curing
    permit := false
    timeClosed := some now
    rowTimer := some (maxCure * 1000)
    stepTimer := some Config.stepPeriod
    elapsed := 0
    cavities := r.cavities.map (Cavity.close r.permit) }

/-- An accepted CLOSED on row `i` (R17). -/
def State.closeRow (s : State) (i : Fin 8) : State :=
  let r := s.row i
  let s₁ := s.setRow i (r.close s.clock (s.rowRecipe i).maxCure)
  let s₂ := s₁.releaseReserved r.recipe (r.cavities.count fun c => c.charge == .awaitCharge)
  let s₃ := { s₂ with
    extraction := { s₂.extraction with uncleared := s₂.extraction.uncleared + r.cavities.count Cavity.partBearing }
    rows := s₂.rows.map Row.clearPermit }
  s₃.tryRelease i

/-- A report answered without any change to rows or cavities, with CELL_FAULT (R16). -/
def State.misfit (s : State) (code : ResultCode) : State × Reply := (s.cellFault, .plain code)

/-- CLOSED(shot): the checks of R16 in their order, then R17. -/
def takeClosed (shot : Nat) (s : State) : State × Reply :=
  if shotOk shot then
    match s.findShot shot with
    | none => s.misfit .unknownShot
    | some i =>
      if (s.row i).state ≠ .open_ ∧ (s.row i).state ≠ .charged then s.misfit .sequence
      else if s.anyOther i Row.inPress then s.misfit .sequence
      else (s.closeRow i, .plain .done)
  else (s, .plain .malformed)

/-- CLOSED as a command of its own row. -/
def execClosed (shot : Nat) (s : State) : Host.Outcome State Fault Refusal := respond .press (takeClosed shot s)

/-! ### OPENED -/

/-- A cavity still CURING becomes FORCED with a note; every other keeps its status (R18 step 2). -/
def Cavity.forceOpen (offset : Nat) (c : Cavity) : Cavity :=
  if c.cure = .curing then { c.giveNote .forcedOpen offset with cure := .forced } else c

/-- The row from which the press has opened (R18, steps 1 to 5). -/
def Row.openPress (r : Row) (now : Clock) (demouldLimit : Nat) : Row :=
  { r with
    state := .opened
    timePressOpened := some now
    stepTimer := none
    rowTimer := some (demouldLimit * 1000)
    cavities := r.cavities.map (Cavity.forceOpen (noteOffset now r)) }

/-- An accepted OPENED on row `i` (R18). -/
def State.openPress (s : State) (i : Fin 8) : State :=
  ((s.setRow i ((s.row i).openPress s.clock (s.rowRecipe i).demouldLimit)).raise .extract .pressOpened).tryFree i

/-- OPENED(shot): the checks of R16 in their order, then R18. -/
def takeOpened (shot : Nat) (s : State) : State × Reply :=
  if shotOk shot then
    match s.findShot shot with
    | none => s.misfit .unknownShot
    | some i => if (s.row i).inPress then (s.openPress i, .plain .done) else s.misfit .sequence
  else (s, .plain .malformed)

/-- OPENED as a command of its own row. -/
def execOpened (shot : Nat) (s : State) : Host.Outcome State Fault Refusal := respond .press (takeOpened shot s)

/-! ### RELEASE_QUERY -/

/-- A part-bearing cavity's cure progress in percent (R83). -/
def Cavity.progress (c : Cavity) : Nat := min 100 (c.acc * 100 / (c.targetAdj.getD 0 * 256))

/-- The least progress over the part-bearing cavities of a row; without one, 0 in OPEN and 100 after CLOSED (R19). -/
def Row.progress (r : Row) : Nat :=
  if r.cavities.any Cavity.partBearing then
    ((r.cavities.toList.filter Cavity.partBearing).map Cavity.progress).foldl min 100
  else if r.inPress || r.state == .opened then 100 else 0

/-- RELEASE_QUERY(shot) (R19). -/
def takeReleaseQuery (shot : Nat) (s : State) : State × Reply :=
  s.onShot shot fun i =>
    let r := s.row i
    (s, { code := .done, fields := [.byte r.state.code, .byte r.progress, .word r.elapsed] })

/-- RELEASE_QUERY as a command of its own row. -/
def execReleaseQuery (shot : Nat) (s : State) : Host.Outcome State Fault Refusal :=
  respond .press (takeReleaseQuery shot s)

/-! ### MAX_CURE expiry -/

/-- A cavity still CURING when MAX_CURE expires becomes TIMED_OUT (R8). -/
def Cavity.timeOut (c : Cavity) : Cavity := if c.cure = .curing then { c with cure := .timedOut } else c

/-- The row timer of a row in CURING expires (R8). A stopped timer does not expire, and in another state the timer is not
MAX_CURE's (R7): then nothing follows (log 15). -/
def execMaxCureExpiry (i : Fin 8) (s : State) : Host.Outcome State Fault Refusal :=
  if (s.row i).state = .curing ∧ (s.row i).rowTimer.isSome then
    .next ((s.setRow i ((s.row i).mapCavities Cavity.timeOut)).enterReleasable i)
  else .next s

/-! ### CELL_CLEAR -/

/-- Whether the press has closed on a row: CURING, RELEASABLE or OPENED (R24). -/
def Row.moulded (r : Row) : Bool := r.inPress || r.state == .opened

/-- A pending cavity of a row: part-bearing and not yet RECORDED, in a row the press has closed on (R24). -/
def Row.isPending (r : Row) (c : Cavity) : Bool := r.moulded && c.partBearing && c.record != .recorded

/-- The number of pending cavities of the table (R24). -/
def State.pendingCavities (s : State) : Nat := (s.rows.toList.map fun r => r.cavities.count r.isPending).sum

/-- A pending cavity still CURING becomes FORCED, and each receives CLEARED_BY_CELL (R25, step 1). -/
def Row.forceCleared (now : Clock) (r : Row) : Row :=
  r.mapCavities fun c =>
    if r.isPending c then
      { c.giveNote .clearedByCell (noteOffset now r) with cure := if c.cure = .curing then .forced else c.cure }
    else c

/-- The non-FREE rows in age order, oldest first (R3). -/
def State.ageOrder (s : State) : List (Fin 8) :=
  (List.range 8).filterMap fun m => s.rows.find fun r => r.live && r.rank == some (m + 1)

/-- The queued records are written in queue order, and the queue empties (R25, step 2). -/
def State.flushQueue (s : State) : State :=
  s.recordQueue.foldl (fun t p => t.recordQueued p.1 p.2) { s with recordQueue := [] }

/-- The record of a cavity that is still pending and NOT_DUE becomes due with outcome CLEARED (R25, step 3). -/
def State.clearDue (i : Fin 8) (s : State) (j : Fin 8) : State :=
  if (s.row i).isPending (s.cavity i j) && (s.cavity i j).record == .notDue then s.recordDue i j .cleared else s

/-- The other pending records are made due: rows in age order, cavities in number order (R25, step 3; R131). -/
def State.clearAllDue (s : State) : State :=
  s.ageOrder.foldl (fun t i => (List.finRange 8).foldl (State.clearDue i) t) s

/-- The reservations of rows in OPEN or CHARGED are released (R25, step 4). -/
def State.releaseUnmoulded (s : State) : State :=
  (List.finRange 8).foldl (fun t i =>
    if (s.row i).state = .open_ ∨ (s.row i).state = .charged then
      t.releaseReserved (s.row i).recipe (s.row i).reservedCavities
    else t) s

/-- Every row is freed, and the run and the result of a freed row are orphaned (R25, step 5; R95). The record queue names
cavities of rows that are not FREE only (R127); step 2 and R24 have left it empty. -/
def State.freeAll (s : State) : State :=
  { s with
    recordQueue := []
    rows := .replicate 8 Row.freed
    weigh := (List.finRange 8).foldl (fun w i => if (s.row i).live then w.orphan i else w) s.weigh }

/-- An outstanding grant is withdrawn with GRANT_REVOKED (R25, step 6). -/
def State.withdrawGrant (s : State) : State :=
  match s.extraction.grant with
  | some _ => { s with extraction := { s.extraction with grant := none } }.raise .extract .grantRevoked
  | none => s

/-- The cell is tool-clear: the uncleared count goes to 0, with TOOL_CLEAR where it was above 0 (R25 step 8, R116). -/
def State.cellToolClear (s : State) : State :=
  let s' := { s with extraction := { s.extraction with uncleared := 0 } }
  if 0 < s.extraction.uncleared then s'.raise .press .toolClear else s'

/-- An accepted CELL_CLEAR, step by step (R25). -/
def State.clearCell (s : State) : State :=
  let s₁ := { s with rows := s.rows.map (Row.forceCleared s.clock) }
  let s₅ := s₁.flushQueue.clearAllDue.releaseUnmoulded.freeAll
  ((s₅.withdrawGrant.endRun .cancelled).cellToolClear).startIdle

/-- CELL_CLEAR: refused RING_FULL where the ring has fewer free slots than there are pending cavities (R24), else R25. -/
def takeCellClear (s : State) : State × Reply :=
  if Config.ringSlots - s.ring.length < s.pendingCavities then (s, .plain .ringFull)
  else (s.clearCell, .plain .done)

/-- CELL_CLEAR as a command of its own row. -/
def execCellClear (s : State) : Host.Outcome State Fault Refusal := respond .records (takeCellClear s)

end Sys2Proof.Machine
end

