-- ==== Sys2Proof/Machine/Platen.lean ====
section
/-! DEFINITION. The platen's requests and the idle timer: HEAT_ON, HEAT_OFF, IDLE_EXPIRY (chapter 2). -/

namespace Sys2Proof.Machine

/-- The effect of an accepted HEAT_ON on the platen: WARMING on the named slot, unless it is WARMING or READY on that slot
already (R32). -/
def State.heatTo (s : State) (k : Fin 8) : State :=
  if (s.regulator.platen = .warming ∨ s.regulator.platen = .ready) ∧ s.regulator.platenRecipe = some k then s
  else s.enterPlaten .warming (some k)

/-- HEAT_ON(recipe): the checks of R32 in their order; accepted on an all-FREE table it starts the idle timer afresh. -/
def takeHeatOn (recipe : Nat) (s : State) : State × Reply :=
  match index8 recipe with
  | none => (s, .plain .malformed)
  | some k =>
    if s.conflictsWith k then (s, .plain .recipeConflict)
    else if s.writingTo k then (s, .plain .busy)
    else if (s.store.slots.get k).validity ≠ .valid then (s, .plain .recipeInvalid)
    else ((s.heatTo k).tableEmptied, .plain .done)

/-- HEAT_ON as a command of its own row. -/
def execHeatOn (recipe : Nat) (s : State) : Host.Outcome State Fault Refusal := respond .press (takeHeatOn recipe s)

/-- HEAT_OFF: BUSY while a row is CURING or RELEASABLE; else the platen enters OFF; in OFF nothing changes (R33, R41). -/
def takeHeatOff (s : State) : State × Reply :=
  if s.rows.any Row.inPress then (s, .plain .busy)
  else if s.regulator.platen = .off then (s, .plain .done)
  else (s.enterOff, .plain .done)

/-- HEAT_OFF as a command of its own row. -/
def execHeatOff (s : State) : Host.Outcome State Fault Refusal := respond .press (takeHeatOff s)

/-- The idle timer expires (R39); a stopped timer does not (R38; log 15). -/
def execIdleExpiry (s : State) : Host.Outcome State Fault Refusal :=
  if s.regulator.idleTimer.isSome then .next s.idleExpire else .next s

end Sys2Proof.Machine
end

