-- ==== Sys2Proof/Machine/Extract.lean ====
section
/-! DEFINITION. The extraction controller: EXTRACT_GRANT, EXTRACT_DONE, CLEAR, the expiry of the demould window and the
interlock inputs (chapter 6). -/

namespace Sys2Proof.Machine

/-! ### The interlock inputs -/

/-- The interlock combination: the sum of the weights of the asserted inputs (R103). -/
def Interlocks.combination (c : Interlocks) : Nat :=
  (if c.pressAtTop then 1 else 0) + (if c.ejectForward then 2 else 0) + (if c.curtainClear then 4 else 0)
    + (if c.robotZoneFree then 8 else 0)

/-- The level of one input. -/
def Interlocks.level (c : Interlocks) : InterlockInput → Bool
  | .pressAtTop => c.pressAtTop
  | .ejectForward => c.ejectForward
  | .curtainClear => c.curtainClear
  | .robotZoneFree => c.robotZoneFree

/-- One input at a level. -/
def Interlocks.setLevel (c : Interlocks) (i : InterlockInput) (level : Bool) : Interlocks :=
  match i with
  | .pressAtTop => { c with pressAtTop := level }
  | .ejectForward => { c with ejectForward := level }
  | .curtainClear => { c with curtainClear := level }
  | .robotZoneFree => { c with robotZoneFree := level }

/-- Whether INTERLOCK_PATTERN permits a combination; 0 is never permitted (R104). -/
def permitted (pattern : BitVec 16) (combination : Nat) : Bool := combination != 0 && pattern.getLsbD combination

/-- Whether the inputs form a permitted combination (R104). -/
def State.permitsDemould (s : State) : Bool :=
  permitted s.settings.interlockPattern s.extraction.inputs.combination

/-! ### Abandoning and revoking -/

/-- A cavity given up: ABANDONED, and its record due with that outcome (R108, R113). -/
def State.abandon (s : State) (i j : Fin 8) : State :=
  (s.modifyCavity i j fun c => { c with tool := .abandoned }).recordDue i j .abandoned

/-- Whether the demould window of a row has expired: OPENED with its row timer stopped (R108). -/
def Row.windowExpired (r : Row) : Bool := r.state == .opened && r.rowTimer.isNone

/-- The outstanding grant is revoked (R107), and its cavity abandoned where its window has expired (R108). -/
def State.revoke (s : State) (g : Grant) : State :=
  let s₁ := { s with extraction := { s.extraction with grant := none } }
  let s₂ := (s₁.modifyCavity g.row g.cavity fun c =>
    { c with tool := .inTool }.giveNote .interlockBreak (noteOffset s.clock (s.row g.row)))
  let s₃ := s₂.raise .extract .grantRevoked
  if (s.row g.row).windowExpired then (s₃.abandon g.row g.cavity).raise .extract .demouldExpired else s₃

/-- An interlock input changes level: the combination takes its new value, and a combination that is not permitted revokes
the outstanding grant (R103, R107). A level the input has already is no change (log 15). -/
def execInterlockChange (input : InterlockInput) (level : Bool) (s : State) : Host.Outcome State Fault Refusal :=
  if s.extraction.inputs.level input = level then .next s
  else
    let s' := { s with extraction := { s.extraction with inputs := s.extraction.inputs.setLevel input level } }
    match s.extraction.grant with
    | some g => if s'.permitsDemould then .next s' else .next (s'.revoke g)
    | none => .next s'

/-! ### EXTRACT_GRANT -/

/-- EXTRACT_GRANT(shot, cavity): the checks of R105 in their order, then R106. -/
def takeExtractGrant (shot cavity : Nat) (s : State) : State × Reply :=
  s.onCavity shot cavity fun i j =>
    if (s.row i).state ≠ .opened ∨ (s.cavity i j).tool ≠ .inTool then (s, .deny .wrongState)
    else if s.extraction.grant.isSome then (s, .deny .grantHeld)
    else if !s.permitsDemould then (s, .deny .interlock)
    else
      ({ s.modifyCavity i j (fun c => { c with tool := .granted }) with
          extraction := { s.extraction with grant := some { row := i, shot := shot, cavity := j } } },
        .plain .granted)

/-- EXTRACT_GRANT as a command of its own row. -/
def execExtractGrant (shot cavity : Nat) (s : State) : Host.Outcome State Fault Refusal :=
  respond .extract (takeExtractGrant shot cavity s)

/-! ### EXTRACT_DONE -/

/-- The outcome a report carries: REMOVED 1, STUCK 2 (R162). -/
def reportedOutcome : Nat → Option ToolOutcome
  | 1 => some .removed
  | 2 => some .stuck
  | _ => none

/-- The tool status a reported outcome gives (R110, step 2). -/
def ToolOutcome.status : ToolOutcome → ToolStatus
  | .removed => .removed
  | .stuck => .stuck
  | .abandoned => .abandoned
  | .cleared => .cleared

/-- Step 1 of R110: a report without a grant gives NO_GRANT, a granted cavity's report ends the grant. -/
def State.endGrant (s : State) (i j : Fin 8) : State :=
  if (s.cavity i j).tool = .inTool then
    s.modifyCavity i j fun c => c.giveNote .noGrant (noteOffset s.clock (s.row i))
  else { s with extraction := { s.extraction with grant := none } }

/-- A report answered DONE on cavity `j` of row `i` (R110). -/
def State.extract (s : State) (i j : Fin 8) (outcome : ToolOutcome) : State :=
  let s₁ := (s.endGrant i j).modifyCavity i j fun c => { c with tool := outcome.status }
  let s₂ := s₁.recordDue i j outcome
  let s₃ := if outcome = .removed then s₂.lowerUncleared else s₂
  s₃.tryFree i

/-- A cavity is CLEARED, the uncleared count falls, and the freeing condition is evaluated (R111, R112). -/
def State.clearCavity (s : State) (i j : Fin 8) : State :=
  ((s.modifyCavity i j fun c => { c with tool := .cleared }).lowerUncleared).tryFree i

/-- The answer to a report that names a row in OPENED, from the cavity's tool status (R109, orders 4 to 6; R111). -/
def State.reportOn (s : State) (i j : Fin 8) (outcome : ToolOutcome) : State × Reply :=
  match (s.cavity i j).tool with
  | .notInTool | .removed | .stuck | .cleared => (s, .plain .wrongState)
  | .inTool | .granted => (s.extract i j outcome, .plain .done)
  | .abandoned => (if outcome = .removed then s.clearCavity i j else s, .plain .late)

/-- EXTRACT_DONE(shot, cavity, outcome): the checks of R109 in their order, then R110 or R111. -/
def takeExtractDone (shot cavity outcome : Nat) (s : State) : State × Reply :=
  match shotOk shot, index8 cavity, reportedOutcome outcome with
  | true, some j, some o =>
    match s.findShot shot with
    | none => s.misfit .unknownShot
    | some i => if (s.row i).state ≠ .opened then s.misfit .sequence else s.reportOn i j o
  | _, _, _ => (s, .plain .malformed)

/-- EXTRACT_DONE as a command of its own row. -/
def execExtractDone (shot cavity outcome : Nat) (s : State) : Host.Outcome State Fault Refusal :=
  respond .extract (takeExtractDone shot cavity outcome s)

/-! ### CLEAR -/

/-- CLEAR(shot, cavity): a STUCK or ABANDONED cavity becomes CLEARED (R112). -/
def takeClear (shot cavity : Nat) (s : State) : State × Reply :=
  s.onCavity shot cavity fun i j =>
    if (s.cavity i j).tool = .stuck ∨ (s.cavity i j).tool = .abandoned then (s.clearCavity i j, .plain .done)
    else (s, .plain .wrongState)

/-- CLEAR as a command of its own row. -/
def execClear (shot cavity : Nat) (s : State) : Host.Outcome State Fault Refusal :=
  respond .extract (takeClear shot cavity s)

/-! ### The demould window -/

/-- An IN_TOOL cavity of row `i` is abandoned; any other is left as it is (R113). -/
def State.abandonIfInTool (i : Fin 8) (s : State) (j : Fin 8) : State :=
  if (s.cavity i j).tool = .inTool then s.abandon i j else s

/-- The row timer of a row in OPENED expires: the timer stops, and every IN_TOOL cavity is abandoned in cavity number
order, with one DEMOULD_EXPIRED (R7, R113). A stopped timer does not expire, and in another state the timer is not the
demould window's (log 15). -/
def execDemouldExpiry (i : Fin 8) (s : State) : Host.Outcome State Fault Refusal :=
  if (s.row i).state = .opened ∧ (s.row i).rowTimer.isSome then
    let s₁ := s.setRow i { s.row i with rowTimer := none }
    let s₂ := (List.finRange 8).foldl (State.abandonIfInTool i) s₁
    if (s.row i).cavities.any fun c => c.tool == .inTool then .next (s₂.raise .extract .demouldExpired) else .next s₂
  else .next s

end Sys2Proof.Machine
end

