-- ==== Sys2Proof/Machine/Stream.lean ====
section
/-! DEFINITION. The records streamer: the units of the records link, the stream, the readback items, READBACK, UNIT_TIMER
and READY_LINE_CHANGE (chapter 8). -/

namespace Sys2Proof.Machine

/-! ### Readback (R137 to R139) -/

/-- The oldest row in CURING (R3, R138). -/
def State.oldestCuring (s : State) : Option (Fin 8) := s.ageOrder.find? fun i => (s.row i).state == .curing

/-- The cure progress of a cavity of the oldest row in CURING, or 0xFFFF (R138). -/
def State.progressItem (s : State) (j : Fin 8) : Nat :=
  match s.oldestCuring with
  | some i => if (s.cavity i j).partBearing then (s.cavity i j).progress else 0xFFFF
  | none => 0xFFFF

/-- The 2-byte value of an item (R138). Only ids of R138 reach it (R139, R168). -/
def State.itemValue (s : State) (id : Nat) : List Byte :=
  if h : id < 12 then
    match (s.regulator.zones.get ⟨id, h⟩).reading with
    | some t => be2Signed t
    | none => [0x80#8, 0#8]
  else if h : 16 ≤ id ∧ id < 28 then be2 (s.regulator.zones.get ⟨id - 16, by omega⟩).duty
  else if h : 32 ≤ id ∧ id < 40 then be2 (s.progressItem ⟨id - 32, by omega⟩)
  else if id = 40 then be2 (s.weigh.pan.getD 0xFFFE)
  else if id = 41 then be2 s.ring.length
  else if id = 42 then be2 s.firing.cellShortfall
  else be2 s.clock.toNat

/-- READBACK(item): MALFORMED for a number that is no item id; queued, or DROPPED with the warning flag (R139). -/
def takeReadback (item : Nat) (s : State) : State × Reply :=
  if isItem item then
    if s.streamer.readback.length < Config.readbackSlots then
      ({ s with streamer := { s.streamer with readback := s.streamer.readback ++ [item] } }, .plain .done)
    else (s.setWarning, .plain .dropped)
  else (s, .plain .malformed)

/-- READBACK as a command of its own row. -/
def execReadback (port : PortId) (item : Nat) (s : State) : Host.Outcome State Fault Refusal :=
  respond port (takeReadback item s)

/-! ### Units (R133 to R137, R140) -/

/-- The state with the stream in progress replaced. -/
def State.setStream (s : State) (st : Option Stream) : State := { s with streamer := { s.streamer with stream := st } }

/-- The item ids of the next status unit: from the head of the readback queue, then AUTO_A and AUTO_B (R137). -/
def State.statusItems (s : State) : Nat × Nat :=
  match s.streamer.readback with
  | a :: b :: _ => (a, b)
  | [a] => (a, s.settings.autoB)
  | [] => (s.settings.autoA, s.settings.autoB)

/-- The status code: the fault flag in bit 0, the warning flag in bit 1 (R134). -/
def Streamer.statusCode (t : Streamer) : Nat := (if t.fault then 1 else 0) + (if t.warning then 2 else 0)

/-- The bytes of a status unit (R134). -/
def State.statusUnit (s : State) : List Byte :=
  let items := s.statusItems
  [0x02#8, BitVec.ofNat 8 s.streamer.statusCode, BitVec.ofNat 8 items.1] ++ s.itemValue items.1
    ++ [BitVec.ofNat 8 items.2] ++ s.itemValue items.2

/-- A status unit is sent: it carries both flags, clears them, takes up to two ids from the queue, and the unit count
returns to 0 (R135 to R137). -/
def State.sendStatus (s : State) : State :=
  { s with
    streamer := { s.streamer with
      unitOut := some s.statusUnit
      unitCount := 0
      fault := false
      warning := false
      readback := s.streamer.readback.drop 2 } }

/-- A record has been sent to its last byte: it leaves the ring (R129, R141), the records-ended count rises, and the stream
continues with the oldest record then in the ring or ends (R140). -/
def State.endRecord (s : State) (ended : Nat) : State :=
  let s' := s.recordSent
  if ended + 1 < s'.settings.ne ∧ s'.ring ≠ [] then s'.setStream (some { ended := ended + 1, position := 0 })
  else s'.setStream none

/-- The next `n` stream bytes of a DATA unit, and the state after them. At a stream's end the end record is the byte 0 and
the fill is zeros; an end record that finds no byte left in the unit is owed (R140). -/
def streamBytes : Nat → State → List Byte × State
  | 0, s => ([], s)
  | n + 1, s =>
    match s.streamer.stream, s.ring with
    | some st, r :: _ =>
      let b := r.bytes.getD st.position 0#8
      let s' :=
        if st.position + 1 < r.bytes.length then s.setStream (some { st with position := st.position + 1 })
        else s.endRecord st.ended
      if s'.streamer.stream.isSome then
        let rest := streamBytes n s'
        (b :: rest.1, rest.2)
      else
        (b :: List.replicate n 0#8,
          if n = 0 ∧ s'.settings.endMarker then { s' with streamer := { s'.streamer with endOwed := true } } else s')
    | _, _ => (List.replicate (n + 1) 0#8, s.setStream none)

/-- A DATA or IDLE unit is put on the link and counted (R134, R135). -/
def State.sendUnit (s : State) (kind : Byte) (payload : List Byte) : State :=
  { s with
    streamer := { s.streamer with unitOut := some (kind :: payload), unitCount := s.streamer.unitCount + 1 } }

/-- A DATA unit that carries the next 7 stream bytes (R134, R140). -/
def State.sendStream (s : State) (kind : Byte) : State :=
  let t := streamBytes 7 s
  t.2.sendUnit kind t.1

/-- The DATA unit that carries an owed end record in byte 1 and zeros after it (R140). -/
def State.sendEndMarker (s : State) : State :=
  { s with streamer := { s.streamer with endOwed := false } }.sendUnit 0x01#8 (List.replicate 7 0#8)

/-- The one unit sent at an expiry with the ready line asserted, its kind chosen in R133's order. -/
def State.sendNextUnit (s : State) : State :=
  if s.settings.nd ≤ s.streamer.unitCount then s.sendStatus
  else if s.streamer.endOwed then s.sendEndMarker
  else if s.streamer.stream.isSome then s.sendStream 0x01#8
  else if s.ring ≠ [] then (s.setStream (some { ended := 0, position := 0 })).sendStream 0x81#8
  else s.sendUnit 0x00#8 (List.replicate 7 0#8)

/-- The unit timer expires: with the ready line asserted one unit is sent, without it none (R133). -/
def execUnitTimer (s : State) : Host.Outcome State Fault Refusal :=
  let s' := { s with streamer := { s.streamer with unitTimer := Config.unitPeriod, unitOut := none } }
  if s.pins.readyLine then .next s'.sendNextUnit else .next s'

/-- The ready line takes a level, which the next unit timer expiry reads (R133). -/
def execReadyLineChange (level : Bool) (s : State) : Host.Outcome State Fault Refusal :=
  .next { s with pins := { s.pins with readyLine := level } }

end Sys2Proof.Machine
end

