-- ==== Sys2Proof/Machine/Weigh.lean ====
section
/-! DEFINITION. The weigh unit and admission: pan samples, TARE, WEIGH, WEIGH_CANCEL, WEIGH_RESULT, ADMIT, ADMIT_OVERRIDE
and the settle run's timeout (chapter 5). -/

namespace Sys2Proof.Machine

/-! ### The settle run -/

/-- A settle run at its start: no reference, count, sum and sample total 0 (R87). -/
def SettleRun.start_ (ticket : Option WeighTicket) (band settleCount timeout : Nat) (now : Clock) : SettleRun :=
  { ticket := ticket, band := band, settleCount := settleCount, timeout := timeout, start := now, reference := none,
    count := 0, sum := 0, samples := 0 }

/-- Whether a value lies within the band around the reference (R87). -/
def withinBand (reference band value : Nat) : Bool :=
  decide (reference ≤ value + band) && decide (value ≤ reference + band)

/-- A sample of 0..60000 taken into a run: it joins the run of readings or becomes its new reference (R87). -/
def SettleRun.take (run : SettleRun) (value : Nat) : SettleRun :=
  match run.reference with
  | some ref =>
    if withinBand ref run.band value then { run with count := run.count + 1, sum := run.sum + value }
    else { run with reference := some value, count := 1, sum := value }
  | none => { run with reference := some value, count := 1, sum := value }

/-- The sample total of a run rises (R87). -/
def SettleRun.countSample (run : SettleRun) : SettleRun :=
  { run with samples := min (run.samples + 1) Config.countMax }

/-- The state with its run in flight replaced. -/
def State.setRun (s : State) (run : SettleRun) : State := { s with weigh := { s.weigh with run := some run } }

/-- A pan sample: the latest pan reading, and a step of the run in flight (R86 to R88). -/
def State.panSample (s : State) (value : Nat) : State :=
  let s' := { s with weigh := { s.weigh with pan := some value } }
  match s.weigh.run with
  | none => s'
  | some run₀ =>
    let run := run₀.countSample
    if 60000 < value then (s'.setRun run).endRun .overload
    else
      let run' := run.take value
      if run'.settleCount ≤ run'.count then (s'.setRun run').endRun (.settled (run'.sum / run'.count))
      else s'.setRun run'

/-- The settle run's timeout expires: the run ends UNSTABLE (R88). Without a run there is no timeout (log 15). -/
def execSettleRunTimeout (s : State) : Host.Outcome State Fault Refusal := .next (s.endRun .unstable)

/-! ### TARE, WEIGH, WEIGH_CANCEL, WEIGH_RESULT -/

/-- TARE: BUSY while a run is in flight; else a tare run starts with the settings parameters (R89). -/
def takeTare (s : State) : State × Reply :=
  match s.weigh.run with
  | some _ => (s, .plain .busy)
  | none =>
    (s.setRun (SettleRun.start_ none s.settings.tareBand s.settings.tareCount s.settings.tareTimeout s.clock),
      .plain .started)

/-- TARE as a command of its own row. -/
def execTare (s : State) : Host.Outcome State Fault Refusal := respond .charge (takeTare s)

/-- An accepted WEIGH for cavity `j` of row `i`: the attempt is counted and the weigh run starts (R92). -/
def State.startWeigh (s : State) (shot : Nat) (i j : Fin 8) : State :=
  let r := s.rowRecipe i
  let attempt := (s.cavity i j).attempts + 1
  let ticket : WeighTicket :=
    { shot := shot, cavity := j, row := i, nominal := r.nominal.get j, tolLow := r.tolLow.get j,
      tolHigh := r.tolHigh.get j, attempt := attempt, orphaned := false }
  (s.modifyCavity i j fun c => { c with attempts := attempt }).setRun
    (SettleRun.start_ (some ticket) r.settleBand r.settleCount r.settleTimeout s.clock)

/-- WEIGH(shot, cavity): the checks of R91 in their order, then R92. -/
def takeWeigh (shot cavity : Nat) (s : State) : State × Reply :=
  s.onCavity shot cavity fun i j =>
    if (s.row i).state ≠ .open_ ∧ (s.row i).state ≠ .charged then (s, .plain .wrongState)
    else if (s.cavity i j).charge = .empty then (s, .plain .wrongState)
    else if (s.cavity i j).charge = .charged then (s, .plain .alreadyCharged)
    else if (s.cavity i j).attempts = (s.rowRecipe i).maxAttempts then (s, .plain .attemptsExhausted)
    else if s.weigh.tare.isNone then (s, .plain .noTare)
    else if s.weigh.run.isSome then (s, .plain .busy)
    else (s.startWeigh shot i j, .plain .started)

/-- WEIGH as a command of its own row. -/
def execWeigh (shot cavity : Nat) (s : State) : Host.Outcome State Fault Refusal :=
  respond .charge (takeWeigh shot cavity s)

/-- WEIGH_CANCEL: the run in flight ends CANCELLED; without one WRONG_STATE (R94). -/
def takeWeighCancel (s : State) : State × Reply :=
  if s.weigh.run.isSome then (s.endRun .cancelled, .plain .done) else (s, .plain .wrongState)

/-- WEIGH_CANCEL as a command of its own row. -/
def execWeighCancel (s : State) : Host.Outcome State Fault Refusal := respond .charge (takeWeighCancel s)

/-- The values of a weigh result record, in the order of R93's table. -/
def WeighResult.fields (r : WeighResult) : List ReplyField :=
  List.flatten
    [[.word r.shot, .byte r.cavity.val], optFields r.gross 0 fun n => [.word n], optFields r.net 0 fun n => [.word n],
     [.byte r.cls.code, .byte r.attempt, .word r.samples, .long r.time.toNat, .flag r.admitted, .flag r.orphaned]]

/-- A weigh result whose fields give an absent one its size. -/
def WeighResult.shape : WeighResult :=
  { shot := 0, cavity := 0, row := 0, gross := none, net := none, cls := .accept, attempt := 0, samples := 0, time := 0,
    admitted := false, orphaned := false }

/-- The code of the run in flight: none, tare run, weigh run (R161). -/
def WeighUnit.runCode (w : WeighUnit) : Nat :=
  match w.run with
  | none => 0
  | some run => if run.ticket.isNone then 1 else 2

/-- WEIGH_RESULT (R96). -/
def takeWeighResult (s : State) : State × Reply :=
  (s, { code := .done
        fields := List.flatten
          [optFields s.weigh.result WeighResult.shape WeighResult.fields,
           [.byte s.weigh.runCode],
           optFields (s.weigh.run.bind SettleRun.ticket |>.map fun t => (t.shot, t.cavity.val)) (0, 0)
             fun t => [.word t.1, .byte t.2],
           optFields s.weigh.tare 0 fun n => [.word n],
           optFields s.weigh.tareOutcome (.tared, none)
             fun t => .byte t.1.code :: optFields t.2 0 fun n => [.word n]] })

/-- WEIGH_RESULT as a command of its own row. -/
def execWeighResult (s : State) : Host.Outcome State Fault Refusal := respond .charge (takeWeighResult s)

/-! ### Admission -/

/-- TARGET_ADJ from the net weight: the adjustment truncated toward zero, then the clamp (R81). -/
def targetFor (r : Recipe) (j : Fin 8) (net : Nat) : Nat :=
  (max (r.targetMin : Int) (min r.targetMax
    (r.cureTarget + (((net : Int) - r.nominal.get j) * r.cureAdjust).tdiv 1000))).toNat

/-- The charge of a cavity at its admission (R99, steps 1, 2, 4 and 5). -/
def Cavity.takeCharge (r : WeighResult) (now : Clock) (target : Nat) (override : Bool) (c : Cavity) : Cavity :=
  let c' : Cavity :=
    { c with
      charge := .charged
      chargeRec := some
        { net := r.net.getD 0, cls := r.cls, override := override, attempts := r.attempt, admitTime := now }
      targetAdj := some target }
  if override then c'.giveNote .overrideCharge 0 else c'

/-- The row enters CHARGED where none of its cavities is AWAIT_CHARGE any more (R100). -/
def Row.tryCharged (r : Row) : Row :=
  if r.state = .open_ ∧ !(r.cavities.any fun c => c.charge == .awaitCharge) then { r with state := .charged } else r

/-- An accepted admission of the last weigh result to cavity `j` of row `i` (R99). -/
def State.admitTo (s : State) (i j : Fin 8) (r : WeighResult) (override : Bool) : State × Reply :=
  let target := targetFor (s.rowRecipe i) j (r.net.getD 0)
  let row := ((s.row i).modifyCavity j (Cavity.takeCharge r s.clock target override)).tryCharged
  ({ s.setRow i row with weigh := { s.weigh with result := some { r with admitted := true } } },
    { code := .done, fields := [.word target] })

/-- The checks of R97, orders 1 to 6; `k` makes the class check and the admission. -/
def State.onAdmission (s : State) (shot cavity : Nat) (k : Fin 8 → Fin 8 → WeighResult → State × Reply) :
    State × Reply :=
  s.onCavity shot cavity fun i j =>
    match s.weigh.result with
    | none => (s, .plain .notAccepted)
    | some r =>
      if r.shot ≠ shot ∨ r.cavity ≠ j then (s, .plain .notAccepted)
      else if r.orphaned then (s, .plain .unknownShot)
      else if (s.row i).state ≠ .open_ ∨ (s.cavity i j).charge ≠ .awaitCharge then (s, .plain .wrongState)
      else if r.admitted then (s, .plain .notAccepted)
      else k i j r

/-- ADMIT(shot, cavity): the class ACCEPT only (R97 to R99). -/
def takeAdmit (shot cavity : Nat) (s : State) : State × Reply :=
  s.onAdmission shot cavity fun i j r =>
    if r.cls = .accept then s.admitTo i j r false else (s, .plain .notAccepted)

/-- ADMIT as a command of its own row. -/
def execAdmit (shot cavity : Nat) (s : State) : Host.Outcome State Fault Refusal :=
  respond .charge (takeAdmit shot cavity s)

/-- ADMIT_OVERRIDE(shot, cavity): ACCEPT as by ADMIT; LIGHT and HEAVY with override where the recipe allows it (R97 to
R99). -/
def takeAdmitOverride (shot cavity : Nat) (s : State) : State × Reply :=
  s.onAdmission shot cavity fun i j r =>
    if r.cls = .accept then s.admitTo i j r false
    else if r.cls = .light ∨ r.cls = .heavy then
      if (s.rowRecipe i).overrideAllowed = 1 then s.admitTo i j r true else (s, .plain .overrideForbidden)
    else (s, .plain .notAccepted)

/-- ADMIT_OVERRIDE as a command of its own row. -/
def execAdmitOverride (shot cavity : Nat) (s : State) : Host.Outcome State Fault Refusal :=
  respond .charge (takeAdmitOverride shot cavity s)

end Sys2Proof.Machine
end

