-- ==== Sys2Proof/Machine/Queries.lean ====
section
/-! DEFINITION. SETTINGS_WRITE and SETTINGS_READ (R167 to R169), POLL (R165), STATUS (R166), CYCLE_QUERY (R20, R21). -/

namespace Sys2Proof.Machine

/-! ### The settings record -/

/-- Whether an entry is ignored: a protected field while a row is not FREE (R168). -/
def State.ignores (s : State) (e : Nat × List Byte) : Bool := isProtected e.1 && !s.allFree

/-- The accepted entries of a SETTINGS_WRITE (R168). A write of IDLE_LIMIT that the elapsed time has reached makes the
running idle timer expire in this event (R38). -/
def State.writeSettings (s : State) (es : List (Nat × List Byte)) : State :=
  let applied := es.filter fun e => !s.ignores e
  let s' := { s with settings := applied.foldl applyEntry s.settings }
  if (applied.any fun e => e.1 == 8) && s'.idleReached then s'.idleExpire else s'

/-- SETTINGS_WRITE(entries) (R168). -/
def takeSettingsWrite (payload : List Byte) (s : State) : State × Reply :=
  match settingsEntries payload with
  | none => (s, .plain .malformed)
  | some es =>
    let ignored := es.filter s.ignores
    let clamped := es.filter fun e => !s.ignores e && entryClamped e
    (s.writeSettings es,
      { code := .done
        fields := listFields ignored (fun e => [.byte e.1]) ++ listFields clamped fun e => [.byte e.1] })

/-- SETTINGS_WRITE as a command of its own row. -/
def execSettingsWrite (payload : List Byte) (s : State) : Host.Outcome State Fault Refusal :=
  respond .records (takeSettingsWrite payload s)

/-- SETTINGS_READ (R169). -/
def takeSettingsRead (s : State) : State × Reply := (s, { code := .done, fields := s.settings.fields })

/-- SETTINGS_READ as a command of its own row. -/
def execSettingsRead (port : PortId) (s : State) : Host.Outcome State Fault Refusal := respond port (takeSettingsRead s)

/-! ### POLL -/

/-- POLL from a port: its notices in the reply; the set empties and the attention line is released (R165). -/
def takePoll (p : PortId) (s : State) : State × Reply :=
  (s.setPort p { s.port p with notices := [], attention := false },
    { code := .done, fields := listFields (s.port p).notices fun k => [.byte k.code] })

/-- POLL as a command of its own row. -/
def execPoll (port : PortId) (s : State) : Host.Outcome State Fault Refusal := respond port (takePoll port s)

/-! ### STATUS -/

/-- The values of one zone in the STATUS reply. -/
def Zone.statusFields (z : Zone) : List ReplyField :=
  List.flatten
    [[.byte z.sensor.code], optFields z.reading 0 fun t => [.signed t],
     [.word z.setpoint, .byte z.duty, .byte z.shortfall, .word z.totalShortfall]]

/-- A recipe slot number that may be absent. -/
def slotFields (k : Option (Fin 8)) : List ReplyField := optFields k 0 fun k => [.byte k.val]

/-- The two counts of one port in the STATUS reply. -/
def Port.statusFields (q : Port) : List ReplyField := [.word q.frameErrors, .word q.overruns]

/-- The values of the STATUS reply, in the order of R166's table. -/
def State.statusFields (s : State) : List ReplyField :=
  List.flatten
    [[.long s.clock.toNat, .flag s.pins.mainsHold, .flag s.pins.strap],
     .byte (8 - s.liveCount) :: slotFields s.runningRecipe,
     .byte s.regulator.platen.code :: slotFields s.regulator.platenRecipe,
     [.byte s.regulator.dwell],
     optFields (s.regulator.idleTimer.map fun t => elapsed s.clock t / 1000) 0 fun n => [.long n],
     [.word s.regulator.sampleErrors],
     s.regulator.zones.toList.flatMap Zone.statusFields,
     [.word s.firing.cellShortfall, .byte s.firing.limit],
     [.byte s.weigh.runCode, .flag s.weigh.tare.isSome],
     [.byte s.extraction.inputs.combination],
     optFields (s.extraction.grant.map fun g => (g.shot, g.cavity.val)) (0, 0) fun g => [.word g.1, .byte g.2],
     [.byte s.extraction.uncleared, .byte s.recordQueue.length, .byte s.ring.length],
     [.byte s.streamer.readback.length, .flag s.pins.readyLine, .flag s.streamer.stream.isSome],
     .byte s.store.lock.code :: slotFields (s.store.write.map WriteInFlight.slot),
     byteFields (s.store.slots.toList.map fun k => k.validity.code),
     s.ports.press.statusFields, s.ports.charge.statusFields, s.ports.extract.statusFields,
     s.ports.records.statusFields]

/-- STATUS (R166). -/
def takeStatus (s : State) : State × Reply := (s, { code := .done, fields := s.statusFields })

/-- STATUS as a command of its own row. -/
def execStatus (port : PortId) (s : State) : Host.Outcome State Fault Refusal := respond port (takeStatus s)

/-! ### CYCLE_QUERY -/

/-- The values every cavity has in a CYCLE_QUERY reply (R20). -/
def Cavity.statusFields (c : Cavity) : List ReplyField :=
  [.byte c.charge.code, .byte c.attempts, .byte c.cure.code, .byte c.tool.code, .byte c.record.code]
    ++ optFields c.verdict .good fun v => [.byte v.code]

/-- The charge record and TARGET_ADJ of a CHARGED cavity (R20), as one group that may be absent (log 10). -/
def Cavity.chargeFields (c : Cavity) : List ReplyField :=
  optFields (if c.partBearing then c.chargeRec else none)
    { net := 0, cls := .accept, override := false, attempts := 0, admitTime := 0 }
    fun r => [.word r.net, .byte r.cls.code, .flag r.override, .byte r.attempts, .long r.admitTime.toNat,
      .word (c.targetAdj.getD 0)]

/-- A timestamp that may be absent. -/
def timeFields (t : Option Clock) : List ReplyField := optFields t 0 fun t => [.long t.toNat]

/-- The remaining time of a row timer in whole seconds, rounded up (R7). -/
def Row.remainingSeconds (r : Row) : Option Nat := r.rowTimer.map fun ms => (ms + 999) / 1000

/-- The values of a CYCLE_QUERY reply for a row (R20). -/
def Row.statusFields (i : Fin 8) (r : Row) : List ReplyField :=
  List.flatten
    [[.byte i.val, .word (r.shot.getD 0), .byte ((r.recipe.map Fin.val).getD 0), .byte r.state.code,
      .byte (r.rank.getD 0), .flag r.permit],
     timeFields r.timeOpened, timeFields r.timeClosed, timeFields r.timePressOpened,
     optFields r.remainingSeconds 0 fun n => [.word n],
     [.flag r.stepTimer.isSome, .word r.elapsed],
     r.cavities.toList.flatMap Cavity.statusFields, r.cavities.toList.flatMap Cavity.chargeFields]

/-- The summary of the whole table (R21). -/
def State.tableFields (s : State) : List ReplyField :=
  .byte (8 - s.liveCount) :: slotFields s.runningRecipe
    ++ listFields s.ageOrder fun i => [.byte i.val, .word ((s.row i).shot.getD 0), .byte (s.row i).state.code]

/-- CYCLE_QUERY(shot): shot 0 asks for the whole table (R20, R21). -/
def takeCycleQuery (shot : Nat) (s : State) : State × Reply :=
  if shot = 0 then (s, { code := .done, fields := s.tableFields })
  else s.onShot shot fun i => (s, { code := .done, fields := (s.row i).statusFields i })

/-- CYCLE_QUERY as a command of its own row. -/
def execCycleQuery (port : PortId) (shot : Nat) (s : State) : Host.Outcome State Fault Refusal :=
  respond port (takeCycleQuery shot s)

end Sys2Proof.Machine
end

