-- ==== Sys2Proof/Machine/RecipeStore.lean ====
section
/-! DEFINITION. The recipe store and the run table: RECIPE_WRITE and its completion, LOCK_STORE, UNLOCK_STORE, RECIPE_READ,
RUN_SET, RUN_QUERY (chapter 9). -/

namespace Sys2Proof.Machine

/-- The contents of a slot after a completed write: the recipe with its check (R150 step 1). -/
def SlotImage.programmed (r : Recipe) : SlotImage := .written r (Config.recipeCheck r.toBytes)

/-- RECIPE_WRITE(slot, recipe): the checks of R147 in their order, with validation (R148), then the write is in flight
(R149). -/
def takeRecipeWrite (payload : List Byte) (s : State) : State × Reply :=
  match payload with
  | [] => (s, .plain .malformed)
  | slot :: body =>
    match index8 slot.toNat with
    | none => (s, .plain .malformed)
    | some k =>
      if body.length ≠ 213 then (s, .plain .malformed)
      else if s.store.lock = .locked then (s, .plain .locked)
      else if s.store.write.isSome then (s, .plain .busy)
      else if s.rows.any fun r => r.live && r.recipe == some k then (s, .plain .inUse)
      else match (Recipe.ofBytes body).firstFailure with
        | some f => (s, { code := .recipeRejected, fields := [.byte f.1, .byte f.2] })
        | none =>
          ({ s with store := { s.store with
              write := some { slot := k, accepted := s.clock, recipe := Recipe.ofBytes body } } },
            .plain .started)

/-- RECIPE_WRITE as a command of its own row. -/
def execRecipeWrite (payload : List Byte) (s : State) : Host.Outcome State Fault Refusal :=
  respond .records (takeRecipeWrite payload s)

/-- The platen re-reads its setpoints after a rewrite of its recipe: WARMING, and the idle timer afresh (R40). -/
def State.rereadPlaten (s : State) (k : Fin 8) : State :=
  if s.regulator.platenRecipe = some k then (s.enterPlaten .warming (some k)).startIdle else s

/-- The steps of R150 for a write in flight. -/
def State.completeWrite (s : State) (w : WriteInFlight) (strap : Bool) : State :=
  let s₁ := { s with
    pins := { s.pins with strap := strap }
    store := { s.store with
      slots := s.store.slots.set w.slot { image := SlotImage.programmed w.recipe, validity := .valid }
      write := none } }
  let s₂ := (s₁.raise .records .storeDone).rereadPlaten w.slot
  if strap then { s₂ with store := { s₂.store with lock := .locked } } else s₂

/-- The write in flight completes (R150); without one nothing completes (log 15). -/
def execRecipeWriteComplete (strap : Bool) (s : State) : Host.Outcome State Fault Refusal :=
  match s.store.write with
  | some w => .next (s.completeWrite w strap)
  | none => .next s

/-- LOCK_STORE (R152). -/
def takeLockStore (s : State) : State × Reply :=
  ({ s with store := { s.store with lock := .locked } }, .plain .done)

/-- LOCK_STORE as a command of its own row. -/
def execLockStore (s : State) : Host.Outcome State Fault Refusal := respond .records (takeLockStore s)

/-- UNLOCK_STORE, while every row is FREE (R152). -/
def takeUnlockStore (s : State) : State × Reply :=
  if s.allFree then ({ s with store := { s.store with lock := .unlocked } }, .plain .done) else (s, .plain .inUse)

/-- UNLOCK_STORE as a command of its own row. -/
def execUnlockStore (s : State) : Host.Outcome State Fault Refusal := respond .records (takeUnlockStore s)

/-- The values of a RECIPE_READ reply for a slot (R153): SUMMARY is form 0, FULL is form 1 (R161). -/
def State.recipeReadFields (s : State) (p : PortId) (k : Fin 8) : List ReplyField :=
  let slot := s.store.slots.get k
  let r := slot.image.recipe
  let head := fun form : Nat => [ReplyField.byte k.val, .byte slot.validity.code, .byte form]
  if slot.validity ≠ .valid then head 0
  else if p = .records ∨ s.store.lock = .unlocked then head 1 ++ r.fields
  else head 0 ++ [.word r.number, .raw r.name.toList, .byte r.enabledCount]

/-- RECIPE_READ(slot) (R153). -/
def takeRecipeRead (p : PortId) (slot : Nat) (s : State) : State × Reply :=
  match index8 slot with
  | none => (s, .plain .malformed)
  | some k =>
    if s.writingTo k then (s, .plain .busy) else (s, { code := .done, fields := s.recipeReadFields p k })

/-- RECIPE_READ as a command of its own row. -/
def execRecipeRead (port : PortId) (slot : Nat) (s : State) : Host.Outcome State Fault Refusal :=
  respond port (takeRecipeRead port slot s)

/-- The entry after an accepted RUN_SET (R154). -/
def RunEntry.setMode (e : RunEntry) (mode : RunMode) (quantity : Nat) : RunEntry :=
  match mode with
  | .counted => { e with mode := .counted, remaining := quantity }
  | .continuous => { e with mode := .continuous }
  | .unset => { e with mode := .unset }

/-- RUN_SET(recipe, mode, quantity) (R154). A quantity above 65535, which no link can carry (R162), is taken as any other and
stored whole, outside the range R154 gives remaining (DESIGN CHOICE, log 13). -/
def takeRunSet (recipe mode quantity : Nat) (s : State) : State × Reply :=
  match index8 recipe, RunMode.ofCode mode with
  | some k, some m =>
    if m = .counted ∧ quantity < (s.runs.get k).reserved then (s, .plain .belowReserved)
    else (s.modifyRun k fun e => e.setMode m quantity, .plain .done)
  | _, _ => (s, .plain .malformed)

/-- RUN_SET as a command of its own row. -/
def execRunSet (recipe mode quantity : Nat) (s : State) : Host.Outcome State Fault Refusal :=
  respond .records (takeRunSet recipe mode quantity s)

/-- The values of a RUN_QUERY reply (R155). -/
def RunEntry.fields (e : RunEntry) : List ReplyField :=
  [.byte e.mode.code, .word e.remaining, .byte e.reserved]
    ++ optFields (if e.mode = .counted then some (e.remaining - e.reserved) else none) 0 fun n => [.word n]

/-- RUN_QUERY(recipe) (R155). -/
def takeRunQuery (recipe : Nat) (s : State) : State × Reply :=
  match index8 recipe with
  | some k => (s, { code := .done, fields := (s.runs.get k).fields })
  | none => (s, .plain .malformed)

/-- RUN_QUERY as a command of its own row. -/
def execRunQuery (port : PortId) (recipe : Nat) (s : State) : Host.Outcome State Fault Refusal :=
  respond port (takeRunQuery recipe s)

end Sys2Proof.Machine
end

