-- ==== Sys2Proof/Machine/LinkPorts.lean ====
section
/-! DEFINITION. The cell link ports: the receiver, the waiting frame, dispatch and replies; FRAME_RECEIVED,
FRAME_GAP_TIMEOUT, REPLY_SENT (R156 to R161). -/

namespace Sys2Proof.Machine

/-- A request taken by the block that owns it (R160): its effect and its reply. The decoder yields requests only; a
command that is no request has no kind of the catalogue (R162). -/
def takeRequest (i : Instr) (s : State) : State × Reply :=
  match i with
  | .openCycle shot recipe => takeOpenCycle shot recipe s
  | .abortCycle shot => takeAbortCycle shot s
  | .closePermit shot => takeClosePermit shot s
  | .closed shot => takeClosed shot s
  | .opened shot => takeOpened shot s
  | .releaseQuery shot => takeReleaseQuery shot s
  | .heatOn recipe => takeHeatOn recipe s
  | .heatOff => takeHeatOff s
  | .tare => takeTare s
  | .weigh shot cavity => takeWeigh shot cavity s
  | .weighCancel => takeWeighCancel s
  | .weighResult => takeWeighResult s
  | .admitCharge shot cavity => takeAdmit shot cavity s
  | .admitOverride shot cavity => takeAdmitOverride shot cavity s
  | .extractGrant shot cavity => takeExtractGrant shot cavity s
  | .extractDone shot cavity outcome => takeExtractDone shot cavity outcome s
  | .clear shot cavity => takeClear shot cavity s
  | .settingsWrite payload => takeSettingsWrite payload s
  | .recipeWrite payload => takeRecipeWrite payload s
  | .lockStore => takeLockStore s
  | .unlockStore => takeUnlockStore s
  | .runSet recipe mode quantity => takeRunSet recipe mode quantity s
  | .cellClear => takeCellClear s
  | .status _ => takeStatus s
  | .poll p => takePoll p s
  | .readback _ item => takeReadback item s
  | .recipeRead p slot => takeRecipeRead p slot s
  | .runQuery _ recipe => takeRunQuery recipe s
  | .settingsRead _ => takeSettingsRead s
  | .cycleQuery _ shot => takeCycleQuery shot s
  | .frameReceived _ _ | .frameGapTimeout _ | .replySent _ | .sampleArrival _ _ | .settleRunTimeout | .frameStart
  | .slotStart | .mainsHoldChange _ | .idleExpiry | .cureStep _ | .maxCureExpiry _ | .demouldExpiry _
  | .interlockChange _ _ | .unitTimer | .readyLineChange _ | .recipeWriteComplete _ | .reset _ =>
    (s, .plain .unknownRequest)

/-- The result code of a frame that no block takes (R160). -/
def frameRefusalCode : FrameRefusal → ResultCode
  | .unknownRequest => .unknownRequest
  | .refusedRole => .refusedRole
  | .malformed => .malformed

/-- The dispatch of a frame (R160): refused with no change of state, or taken by its block. -/
def dispatchFrame (p : PortId) (kind : Byte) (payload : List Byte) (s : State) : State × Reply :=
  match decodeRequest p kind payload with
  | .ok i => takeRequest i s
  | .error e => (s, .plain (frameRefusalCode e))

/-- A good frame offered to the waiting-frame buffer: it becomes the waiting frame and is dispatched, its reply formed in
the same event; or, with a frame waiting, it is discarded and counted as an overrun (R159). -/
def State.offerFrame (s : State) (p : PortId) (kind : Byte) (payload : List Byte) : State :=
  match (s.port p).waiting with
  | some _ => s.setPort p { s.port p with overruns := min ((s.port p).overruns + 1) Config.countMax }
  | none =>
    let t := dispatchFrame p kind payload s
    t.1.setPort p { t.1.port p with
      waiting := some { kind := kind, payload := payload, reply := frameBytes kind t.2.bytes } }

/-- The state with a port's receiver replaced. -/
def State.setReceiver (s : State) (p : PortId) (r : Receiver) : State := s.setPort p { s.port p with receiver := r }

/-- A damaged frame is discarded and counted, and the receiver hunts again (R158). -/
def State.damageFrame (s : State) (p : PortId) : State :=
  s.setPort p { s.port p with
    receiver := .hunting
    frameErrors := min ((s.port p).frameErrors + 1) Config.countMax }

/-- A byte taken while hunting: 0x7E starts a frame, any other is discarded (R158). -/
def State.huntByte (s : State) (p : PortId) (b : Byte) : State :=
  if b = 0x7E#8 then s.setReceiver p (.inFrame [] s.clock) else s

/-- The receiver after the bytes that follow the sync: a length of 0 damages the frame; after the last check byte the
check is tested over the length, kind and payload bytes (R158). -/
def State.frameProgress (s : State) (p : PortId) (bytes : List Byte) : State :=
  match bytes with
  | [] => s
  | len :: rest =>
    if len = 0#8 then s.damageFrame p
    else if rest.length < len.toNat + 2 then s.setReceiver p (.inFrame bytes s.clock)
    else
      let body := rest.take len.toNat
      if be2 (crc16 (len :: body)).toNat = rest.drop len.toNat then
        (s.setReceiver p .hunting).offerFrame p (body.headD 0#8) body.tail
      else s.damageFrame p

/-- Whether more than 10 ms have passed since the last byte of a port's unfinished frame (R158). -/
def State.gapExpired (s : State) (p : PortId) : Bool :=
  match (s.port p).receiver with
  | .inFrame _ t => decide (Config.frameGap < elapsed s.clock t)
  | .hunting => false

/-- One byte arrives on a port's link (R158). A byte after too long a gap ends the frame as damaged and is taken as a
hunting byte. -/
def State.receiveByte (p : PortId) (s : State) (b : Byte) : State :=
  if s.gapExpired p then (s.damageFrame p).huntByte p b
  else match (s.port p).receiver with
    | .hunting => s.huntByte p b
    | .inFrame bytes _ => s.frameProgress p (bytes ++ [b])

/-- Bytes arrive on a port's link, one after the other, the last of them completing a frame (R158 to R161). -/
def execFrameReceived (port : PortId) (bytes : List Byte) (s : State) : Host.Outcome State Fault Refusal :=
  .next (bytes.foldl (State.receiveByte port) s)

/-- More than 10 ms have passed between two bytes of a frame: the frame is damaged (R158). A hunting receiver has no gap
to measure (log 15). -/
def execFrameGapTimeout (port : PortId) (s : State) : Host.Outcome State Fault Refusal :=
  match (s.port port).receiver with
  | .inFrame _ _ => .next (s.damageFrame port)
  | .hunting => .next s

/-- The last byte of a port's reply has been sent: the waiting frame ends (R159). Where no frame is waiting no reply can be
sent, and nothing changes (log 15). -/
def execReplySent (port : PortId) (s : State) : Host.Outcome State Fault Refusal :=
  .next (s.setPort port { s.port port with waiting := none })

end Sys2Proof.Machine
end

