-- ==== Sys2Proof/Machine/Reset.lean ====
section
/-! DEFINITION. RESET: the volatile state returns to its reset values, a write in flight is cut short, and the store is
verified (R1, R145, R146, R151). -/

namespace Sys2Proof.Machine

/-- The validity that verification gives a slot's contents (R145, R151). -/
def SlotImage.verify : SlotImage → Validity
  | .erased => .empty
  | .written r check => if check = Config.recipeCheck r.toBytes then .valid else .corrupt
  | .torn => .corrupt

/-- A slot's contents at a reset: cut short where a write to it is in flight (R151). -/
def Store.cut (st : Store) (k : Fin 8) : SlotImage :=
  match st.write with
  | some w => if w.slot = k then .torn else (st.slots.get k).image
  | none => (st.slots.get k).image

/-- The slots after the verification of a reset (R145). -/
def Store.verified (st : Store) : Vec StoreSlot 8 :=
  .ofFn fun k => { image := st.cut k, validity := (st.cut k).verify }

/-- The state right after a reset, before STORE_CORRUPT: the reset values, the pins as they stand, the slots verified, and
the lock from the strap. The queue of commands and the free-order counter are the model's own and are kept. -/
def State.afterReset (s : State) (strap : Bool) : State :=
  { State.reset with
    pending := s.pending
    pins := { s.pins with strap := strap }
    extraction := { State.reset.extraction with inputs := s.extraction.inputs }
    store :=
      { slots := s.store.verified, lock := if strap then .locked else .unlocked, write := none }
    raceCount := s.raceCount }

/-- Power-up or the reset input (R1, R145): where a slot is CORRUPT after verification, STORE_CORRUPT is raised on the
records port and the fault flag set. -/
def execReset (strap : Bool) (s : State) : Host.Outcome State Fault Refusal :=
  let t := s.afterReset strap
  if t.store.slots.any fun k => k.validity == .corrupt then .next (t.raise .records .storeCorrupt).setFault
  else .next t

end Sys2Proof.Machine
end

