-- ==== Sys2Proof/Machine/Sample.lean ====
section
/-! DEFINITION. The sample link: routing by channel, and the classification of a zone sample (R26, R27). -/

namespace Sys2Proof.Machine

/-- The sensor state that a zone sample gives (R27). -/
def sampleClass (value : BitVec 16) : SensorState :=
  if value = 0x7FFF#16 then .open_
  else if -500 ≤ value.toInt ∧ value.toInt ≤ 4500 then .ok
  else .range

/-- A zone record after a sample: a valid one gives the reading, and every one the arrival time (R27). -/
def Zone.sample (now : Clock) (value : BitVec 16) (z : Zone) : Zone :=
  { z with
    reading := if sampleClass value = .ok then some value.toInt else z.reading
    arrival := some now
    sensor := sampleClass value }

/-- A sample on a zone channel; a move from OK to OPEN or RANGE sets the fault flag (R27). -/
def State.zoneSample (s : State) (i : Fin 12) (value : BitVec 16) : State :=
  let s' := { s with regulator := { s.regulator with zones := s.regulator.zones.modify i (Zone.sample s.clock value) } }
  if (s.regulator.zones.get i).sensor = .ok ∧ sampleClass value ≠ .ok then s'.setFault else s'

/-- A sample on a channel without a destination is counted (R26). -/
def State.sampleError (s : State) : State :=
  { s with regulator := { s.regulator with sampleErrors := min (s.regulator.sampleErrors + 1) Config.countMax } }

/-- A sample arrives: channels 0..11 to the zone record, 12 to the weigh unit, the others counted (R26). -/
def execSampleArrival (channel : Nat) (value : BitVec 16) (s : State) : Host.Outcome State Fault Refusal :=
  if h : channel < 12 then .next (s.zoneSample ⟨channel, h⟩ value)
  else if channel = 12 then .next (s.panSample value.toNat)
  else .next s.sampleError

end Sys2Proof.Machine
end

