-- ==== Sys2Proof/Machine/CellClock.lean ====
section
/-! DEFINITION. The passing of time: which timer expiries are due, one millisecond of the cell clock, and the free order of
expiries due at the same moment (R170; log 1, log 2). `step` uses them when no command waits. -/

namespace Sys2Proof.Machine

/-- The four ports, in their order. -/
def allPorts : List PortId := [.press, .charge, .extract, .records]

/-- The expiries of one row's timers that are due (R7, R8, R9, R113). -/
def Row.dueEvents (i : Fin 8) (r : Row) : List Instr :=
  (if r.stepTimer = some 0 then [.cureStep i] else [])
    ++ (if r.rowTimer = some 0 then
          match r.state with
          | .curing => [.maxCureExpiry i]
          | .opened => [.demouldExpiry i]
          | .free | .open_ | .charged | .releasable => []
        else [])

/-- The expiries of the frame timer, the slot timer and the unit timer that are due (R50, R133). -/
def State.dueTicks (s : State) : List Instr :=
  (if s.streamer.unitTimer = 0 then [.unitTimer] else [])
    ++ (if s.firing.frameTimer = 0 then [.frameStart] else [])
    ++ (match s.firing.slot with
        | some k => if k < 99 ∧ s.firing.slotTimer = 0 then [.slotStart] else []
        | none => [])

/-- The expiries measured from a start time that are due: the settle run's timeout (R88), the recipe write (R149), the
idle timer (R38). -/
def State.dueTimeouts (s : State) : List Instr :=
  (match s.weigh.run with
    | some run => if run.timeout ≤ elapsed s.clock run.start then [.settleRunTimeout] else []
    | none => [])
    ++ (match s.store.write with
        | some w => if Config.writeTime ≤ elapsed s.clock w.accepted then [.recipeWriteComplete s.pins.strap] else []
        | none => [])
    ++ (if s.idleReached then [.idleExpiry] else [])

/-- Every timer expiry that is due at the cell clock now. -/
def State.dueEvents (s : State) : List Instr :=
  s.dueTicks ++ (List.finRange 8).flatMap (fun i => (s.row i).dueEvents i) ++ s.dueTimeouts
    ++ (allPorts.filter s.gapExpired).map Instr.frameGapTimeout

/-- The timers of a row after one millisecond. -/
def Row.tick (r : Row) : Row :=
  { r with rowTimer := r.rowTimer.map (· - 1), stepTimer := r.stepTimer.map (· - 1) }

/-- The pins after one millisecond: the strap is a level that the board may change at any time, and it has no row of its
own; it takes the level the board gives it for this millisecond (R146, R166; log 4). -/
def Pins.tick (p : Pins) : Pins := { p with strap := p.strapAhead.headD p.strap, strapAhead := p.strapAhead.tail }

/-- One millisecond of the cell clock (R170): the clock rises by 1, wrapping, every running timer has 1 ms less to go, and
the strap follows the board. -/
def State.tick (s : State) : State :=
  { s with
    clock := s.clock + 1
    pins := s.pins.tick
    rows := s.rows.map Row.tick
    firing := { s.firing with frameTimer := s.firing.frameTimer - 1, slotTimer := s.firing.slotTimer - 1 }
    streamer := { s.streamer with unitTimer := s.streamer.unitTimer - 1 } }

/-- The expiry taken first of those due at one moment: the only one, or the one the free value names (log 2). -/
def State.chooseDue (s : State) (first : Instr) (rest : List Instr) : Instr :=
  match rest with
  | [] => first
  | _ :: _ => (first :: rest).getD (Config.raceChoice s.raceCount % (rest.length + 1)) first

/-- The state in which a chosen expiry is taken: where the choice was free, the counter behind it advances. -/
def State.afterChoice (s : State) (rest : List Instr) : State :=
  match rest with
  | [] => s
  | _ :: _ => { s with raceCount := s.raceCount + 1 }

end Sys2Proof.Machine
end

