-- ==== Sys2Proof/Machine/Dispatch.lean ====
section
/-! DEFINITION. The dispatch: one arm for each command, each one direct call of its meaning. -/

namespace Sys2Proof.Machine

def exec (i : Instr) (s : State) : Host.Outcome State Fault Refusal :=
  match i with
  | .openCycle shot recipe => Sys2Proof.Machine.execOpenCycle shot recipe s
  | .abortCycle shot => Sys2Proof.Machine.execAbortCycle shot s
  | .closePermit shot => Sys2Proof.Machine.execClosePermit shot s
  | .closed shot => Sys2Proof.Machine.execClosed shot s
  | .opened shot => Sys2Proof.Machine.execOpened shot s
  | .releaseQuery shot => Sys2Proof.Machine.execReleaseQuery shot s
  | .heatOn recipe => Sys2Proof.Machine.execHeatOn recipe s
  | .heatOff => Sys2Proof.Machine.execHeatOff s
  | .tare => Sys2Proof.Machine.execTare s
  | .weigh shot cavity => Sys2Proof.Machine.execWeigh shot cavity s
  | .weighCancel => Sys2Proof.Machine.execWeighCancel s
  | .weighResult => Sys2Proof.Machine.execWeighResult s
  | .admitCharge shot cavity => Sys2Proof.Machine.execAdmit shot cavity s
  | .admitOverride shot cavity => Sys2Proof.Machine.execAdmitOverride shot cavity s
  | .extractGrant shot cavity => Sys2Proof.Machine.execExtractGrant shot cavity s
  | .extractDone shot cavity outcome => Sys2Proof.Machine.execExtractDone shot cavity outcome s
  | .clear shot cavity => Sys2Proof.Machine.execClear shot cavity s
  | .settingsWrite payload => Sys2Proof.Machine.execSettingsWrite payload s
  | .recipeWrite payload => Sys2Proof.Machine.execRecipeWrite payload s
  | .lockStore => Sys2Proof.Machine.execLockStore s
  | .unlockStore => Sys2Proof.Machine.execUnlockStore s
  | .runSet recipe mode quantity => Sys2Proof.Machine.execRunSet recipe mode quantity s
  | .cellClear => Sys2Proof.Machine.execCellClear s
  | .status port => Sys2Proof.Machine.execStatus port s
  | .poll port => Sys2Proof.Machine.execPoll port s
  | .readback port item => Sys2Proof.Machine.execReadback port item s
  | .recipeRead port slot => Sys2Proof.Machine.execRecipeRead port slot s
  | .runQuery port recipe => Sys2Proof.Machine.execRunQuery port recipe s
  | .settingsRead port => Sys2Proof.Machine.execSettingsRead port s
  | .cycleQuery port shot => Sys2Proof.Machine.execCycleQuery port shot s
  | .frameReceived port bytes => Sys2Proof.Machine.execFrameReceived port bytes s
  | .frameGapTimeout port => Sys2Proof.Machine.execFrameGapTimeout port s
  | .replySent port => Sys2Proof.Machine.execReplySent port s
  | .sampleArrival channel value => Sys2Proof.Machine.execSampleArrival channel value s
  | .settleRunTimeout => Sys2Proof.Machine.execSettleRunTimeout s
  | .frameStart => Sys2Proof.Machine.execFrameStart s
  | .slotStart => Sys2Proof.Machine.execSlotStart s
  | .mainsHoldChange level => Sys2Proof.Machine.execMainsHoldChange level s
  | .idleExpiry => Sys2Proof.Machine.execIdleExpiry s
  | .cureStep row => Sys2Proof.Machine.execCureStep row s
  | .maxCureExpiry row => Sys2Proof.Machine.execMaxCureExpiry row s
  | .demouldExpiry row => Sys2Proof.Machine.execDemouldExpiry row s
  | .interlockChange input level => Sys2Proof.Machine.execInterlockChange input level s
  | .unitTimer => Sys2Proof.Machine.execUnitTimer s
  | .readyLineChange level => Sys2Proof.Machine.execReadyLineChange level s
  | .recipeWriteComplete strap => Sys2Proof.Machine.execRecipeWriteComplete strap s
  | .reset strap => Sys2Proof.Machine.execReset strap s

end Sys2Proof.Machine
end

