-- ==== Sys2Proof/Machine/Step.lean ====
section
/-! DEFINITION. One step: the command at the front of the queue is taken; with no command waiting, a due timer expiry
happens, or one millisecond passes (log 1). -/

namespace Sys2Proof.Machine

/-- A step with no command waiting: one due expiry, or one millisecond of the cell clock (log 1, log 2). -/
def idleStep (s : State) : Host.Outcome State Fault Refusal :=
  match s.dueEvents with
  | [] => .next s.tick
  | e :: es => exec (s.chooseDue e es) (s.afterChoice es)

/-- One step. -/
def step (s : State) : Host.Outcome State Fault Refusal :=
  match s.pending with
  | c :: rest => exec c { s with pending := rest }
  | [] => idleStep s

/-- The state with the command that a table word spells at the front of its queue; the opcode table gives no bits, so no
word spells one. -/
def State.withFetchWord (s : State) (nbits w : Nat) : State :=
  match decodeTableWord nbits w with
  | some c => { s with pending := c :: s.pending }
  | none => s

end Sys2Proof.Machine
end

