-- ==== Sys2Proof/Safety.lean ====
section
/-! DEFINITION. What a lawful state of the part is: the laws that the spec states over all of its life (one row per shot,
age ranks, one row in the press, the life of a cavity slot, the one grant, the ring and its queue, the uncleared count, the
reservations, the heater supply, the settings, the notices, the saturating counts), each a predicate of a state. The
predicates by which statements name a row (R2) stand here too. -/

namespace Sys2Proof.Machine

/-! ### How a request names a row -/

/-- A shot number that a request may carry (R2). -/
abbrev ShotNumber (shot : Nat) : Prop := 1 ≤ shot ∧ shot ≤ 65535

/-- A shot names row `i`: the row is not FREE and holds the shot, and no other row that is not FREE holds it (R2). -/
abbrev State.Names (s : State) (shot : Nat) (i : Fin 8) : Prop :=
  ShotNumber shot ∧ (s.row i).state ≠ .free ∧ (s.row i).shot = some shot ∧
    ∀ k, (s.row k).state ≠ .free → (s.row k).shot = some shot → k = i

/-- A shot that no row which is not FREE holds (R2). -/
abbrev State.NamesNone (s : State) (shot : Nat) : Prop :=
  ShotNumber shot ∧ ∀ k, (s.row k).state ≠ .free → (s.row k).shot ≠ some shot

/-- A row is in the closed press: CURING or RELEASABLE. -/
abbrev Row.Pressed (r : Row) : Prop := r.state = .curing ∨ r.state = .releasable

/-- A cavity is in the tool (R101): IN_TOOL, GRANTED, STUCK or ABANDONED. -/
abbrev Cavity.InTool (c : Cavity) : Prop :=
  c.tool = .inTool ∨ c.tool = .granted ∨ c.tool = .stuck ∨ c.tool = .abandoned

/-! ### The laws of the cycle table -/

/-- FREE rows are in the freed condition (R1); a shot number is held by one row (R2); the rows that are not FREE name one
recipe slot (R4). -/
structure State.TableLaw (s : State) : Prop where
  freed : ∀ i, (s.row i).state = .free → s.row i = Row.freed
  named : ∀ i, (s.row i).state ≠ .free →
    (s.row i).recipe ≠ none ∧ ∃ shot, (s.row i).shot = some shot ∧ ShotNumber shot
  oneShot : ∀ i k, (s.row i).state ≠ .free → (s.row k).state ≠ .free → (s.row i).shot = (s.row k).shot → i = k
  oneRecipe : ∀ i k, (s.row i).state ≠ .free → (s.row k).state ≠ .free → (s.row i).recipe = (s.row k).recipe

/-- The number of rows that are not FREE. -/
def State.liveRows (s : State) : Nat := (List.finRange 8).countP fun i => (s.row i).state != .free

/-- The ranks of the rows that are not FREE are 1 to their number, without gaps and each once (R3). -/
structure State.RankLaw (s : State) : Prop where
  range : ∀ i, (s.row i).state ≠ .free → ∃ m, (s.row i).rank = some m ∧ 1 ≤ m ∧ m ≤ s.liveRows
  distinct : ∀ i k, (s.row i).state ≠ .free → (s.row k).state ≠ .free → (s.row i).rank = (s.row k).rank → i = k

/-- At most one row is in the closed press (R14, R16); the step timer runs in exactly that row (R9); the row timer runs in
CURING, may run in OPENED, and is stopped in every other state (R7); the close-permit flag is set in CHARGED rows only
(R15). -/
structure State.PressLaw (s : State) : Prop where
  onePressed : ∀ i k, (s.row i).Pressed → (s.row k).Pressed → i = k
  stepTimer : ∀ i, (s.row i).stepTimer ≠ none ↔ (s.row i).Pressed
  rowTimerCuring : ∀ i, (s.row i).state = .curing → (s.row i).rowTimer ≠ none
  rowTimerStopped : ∀ i, (s.row i).state ≠ .curing → (s.row i).state ≠ .opened → (s.row i).rowTimer = none
  permit : ∀ i, (s.row i).permit = true → (s.row i).state = .charged

/-! ### The life of a cavity slot -/

/-- A cavity slot before CLOSED: nothing has happened to it but charging (R5, R64, R101, R118). -/
abbrev Cavity.Unmoulded (c : Cavity) : Prop :=
  c.charge ≠ .void ∧ c.cure = .none ∧ c.acc = 0 ∧ c.tool = .notInTool ∧ c.record = .notDue

/-- A cavity slot that bears no part in a row the press has closed on: EMPTY or VOID for the life of the row. -/
abbrev Cavity.Barren (c : Cavity) : Prop :=
  c.charge ≠ .awaitCharge ∧ c.charge ≠ .charged ∧ c.cure = .none ∧ c.tool = .notInTool ∧ c.record = .notDue

/-- A part-bearing cavity slot in the closed press. -/
abbrev Cavity.Pressed (c : Cavity) : Prop :=
  c.charge = .charged ∧ c.cure ≠ .none ∧ c.cure ≠ .forced ∧ c.tool = .inTool ∧ c.record = .notDue

/-- A part-bearing cavity slot after OPENED: its record is due exactly when it has its tool outcome (R115, R121). -/
abbrev Cavity.Demoulding (c : Cavity) : Prop :=
  c.charge = .charged ∧ c.cure ≠ .none ∧ c.cure ≠ .curing ∧ c.tool ≠ .notInTool ∧
    (c.record = .notDue ↔ c.tool = .inTool ∨ c.tool = .granted)

/-- The sub-states of every cavity slot fit the state of its row (R5, R65, R101, R118). -/
structure State.CavityLaw (s : State) : Prop where
  unmoulded : ∀ i, (s.row i).state = .open_ ∨ (s.row i).state = .charged → ∀ j, (s.cavity i j).Unmoulded
  charged : ∀ i, (s.row i).state = .charged → ∀ j, (s.cavity i j).charge ≠ .awaitCharge
  pressed : ∀ i, (s.row i).Pressed → ∀ j, (s.cavity i j).Barren ∨ (s.cavity i j).Pressed
  releasable : ∀ i, (s.row i).state = .releasable → ∀ j, (s.cavity i j).cure ≠ .curing
  opened : ∀ i, (s.row i).state = .opened → ∀ j, (s.cavity i j).Barren ∨ (s.cavity i j).Demoulding
  chargeRecord : ∀ i j, (s.cavity i j).charge = .charged ↔ (s.cavity i j).chargeRec ≠ none
  target : ∀ i j, (s.cavity i j).charge = .charged ↔ (s.cavity i j).targetAdj ≠ none

/-! ### Extraction -/

/-- The law of the grant (R106): it belongs to a GRANTED cavity of a row in OPENED, no other cavity is GRANTED, and the
interlock inputs form a permitted combination. -/
structure State.GrantLaw (s : State) : Prop where
  held : ∀ g, s.extraction.grant = some g →
    (s.row g.row).state = .opened ∧ (s.row g.row).shot = some g.shot ∧ (s.cavity g.row g.cavity).tool = .granted
  only : ∀ i j, (s.cavity i j).tool = .granted → ∃ shot, s.extraction.grant = some ⟨i, shot, j⟩
  permitted : s.extraction.grant ≠ none →
    s.extraction.inputs.combination ≠ 0 ∧
      s.settings.interlockPattern.getLsbD s.extraction.inputs.combination = true

/-- The number of cavities, over all rows, that are in the tool (R102). -/
def State.inToolCount (s : State) : Nat :=
  ((List.finRange 8).map fun i => (List.finRange 8).countP fun j => decide (s.cavity i j).InTool).sum

/-- The uncleared count is the number of cavities in the tool (R102). -/
def State.UnclearedLaw (s : State) : Prop := s.extraction.uncleared = s.inToolCount

/-! ### Records -/

/-- The laws of the history ring and the record queue (R118, R126 to R128): the ring holds at most 64 records and exactly
64 while anyone is queued; the queue holds each QUEUED cavity once, with its frozen record, and no other. -/
structure State.RingLaw (s : State) : Prop where
  capacity : s.ring.length ≤ 64
  full : s.recordQueue ≠ [] → s.ring.length = 64
  once : s.recordQueue.Nodup
  queued : ∀ i j, (s.cavity i j).record = .queued ↔ (i, j) ∈ s.recordQueue
  frozen : ∀ i j, (s.cavity i j).record = .queued ↔ (s.cavity i j).frozen ≠ none

/-- The number of cavities reserved against the run of a recipe slot (R12): enabled, in a row that is not FREE and names
the slot, not VOID, and with a record that is not yet due. -/
def State.reservedCount (s : State) (k : Fin 8) : Nat :=
  ((List.finRange 8).map fun i =>
    if (s.row i).state ≠ .free ∧ (s.row i).recipe = some k then
      (List.finRange 8).countP fun j =>
        decide (((s.cavity i j).charge = .awaitCharge ∨ (s.cavity i j).charge = .charged) ∧
          (s.cavity i j).record = .notDue)
    else 0).sum

/-- The law of the reservations (R12): the reserved count of every entry is the number of its reserved cavities, and in a
COUNTED run it does not exceed the remaining quantity. -/
structure State.ReservedLaw (s : State) : Prop where
  count : ∀ k, (s.runs.get k).reserved = s.reservedCount k
  within : ∀ k, (s.runs.get k).mode = .counted → (s.runs.get k).reserved ≤ (s.runs.get k).remaining

/-! ### Recipes and the recipe store -/

/-- A recipe that passes validation (R148): every field in the range of R145, the per-cavity fields for the cavities of
ENABLED, and the four cross-field checks. -/
structure Recipe.Valid (r : Recipe) : Prop where
  number : r.number ≤ 65535
  enabled : ∃ j, r.enabled.get j = true
  topZone : ∀ j, r.enabled.get j = true → r.topZone.get j ≤ 11
  bottomZone : ∀ j, r.enabled.get j = true → r.bottomZone.get j ≤ 11
  offset : ∀ j, r.enabled.get j = true → -200 ≤ r.offset.get j ∧ r.offset.get j ≤ 200
  nominal : ∀ j, r.enabled.get j = true → r.nominal.get j ≤ 60000
  tolLow : ∀ j, r.enabled.get j = true → r.tolLow.get j ≤ 60000
  tolHigh : ∀ j, r.enabled.get j = true → r.tolHigh.get j ≤ 60000
  setpoint : ∀ z, r.setpoint.get z ≤ 4500
  fallbackDuty : ∀ z, r.fallbackDuty.get z ≤ 100
  maxDuty : ∀ z, r.maxDuty.get z ≤ 100
  gains : r.kp ≤ 255 ∧ r.ki ≤ 255
  cutbackBand : r.cutbackBand ≤ 1000
  base : -500 ≤ r.base ∧ r.base ≤ 4500
  width : 10 ≤ r.width ∧ r.width ≤ 500
  rate : ∀ i, r.rate.get i ≤ 4095
  cureTarget : 1 ≤ r.cureTarget ∧ r.cureTarget ≤ 65535
  targetMin : 1 ≤ r.targetMin ∧ r.targetMin ≤ 65535
  targetMax : 1 ≤ r.targetMax ∧ r.targetMax ≤ 65535
  cureAdjust : r.cureAdjust ≤ 1000
  maxCure : 1 ≤ r.maxCure ∧ r.maxCure ≤ 65535
  scorchTemp : -700 ≤ r.scorchTemp ∧ r.scorchTemp ≤ 4700
  scorchAllowance : r.scorchAllowance ≤ 65535
  blindAllowance : r.blindAllowance ≤ 65535
  traceInterval : 1 ≤ r.traceInterval ∧ r.traceInterval ≤ 60
  maxAttempts : 1 ≤ r.maxAttempts ∧ r.maxAttempts ≤ 7
  overrideAllowed : r.overrideAllowed ≤ 1
  settleBand : 1 ≤ r.settleBand ∧ r.settleBand ≤ 1000
  settleCount : 1 ≤ r.settleCount ∧ r.settleCount ≤ 14
  settleTimeout : 100 ≤ r.settleTimeout ∧ r.settleTimeout ≤ 10000
  demouldLimit : 1 ≤ r.demouldLimit ∧ r.demouldLimit ≤ 65535
  twoZones : ∀ j, r.enabled.get j = true → r.bottomZone.get j ≠ r.topZone.get j
  heated : ∀ j (z : Fin 12), r.enabled.get j = true → r.topZone.get j = z.val ∨ r.bottomZone.get j = z.val →
    r.setpoint.get z ≠ 0
  fallback : ∀ z, r.fallbackDuty.get z ≤ r.maxDuty.get z
  target : r.targetMin ≤ r.cureTarget ∧ r.cureTarget ≤ r.targetMax

/-- A recipe whose every field fits the bytes that RECIPE_WRITE gives it (R147): one byte, or two, signed in the fields whose
range is. -/
structure Recipe.Fits (r : Recipe) : Prop where
  topZone : ∀ j, r.topZone.get j < 256
  bottomZone : ∀ j, r.bottomZone.get j < 256
  offset : ∀ j, -32768 ≤ r.offset.get j ∧ r.offset.get j < 32768
  weights : ∀ j, r.nominal.get j < 65536 ∧ r.tolLow.get j < 65536 ∧ r.tolHigh.get j < 65536
  zones : ∀ z, r.setpoint.get z < 65536 ∧ r.fallbackDuty.get z < 256 ∧ r.maxDuty.get z < 256
  regulation : r.kp < 256 ∧ r.ki < 256 ∧ r.cutbackBand < 65536
  table : -32768 ≤ r.base ∧ r.base < 32768 ∧ r.width < 65536 ∧ ∀ i, r.rate.get i < 65536
  cure : r.cureTarget < 65536 ∧ r.targetMin < 65536 ∧ r.targetMax < 65536 ∧ r.cureAdjust < 65536 ∧ r.maxCure < 65536
  scorch : -32768 ≤ r.scorchTemp ∧ r.scorchTemp < 32768 ∧ r.scorchAllowance < 65536 ∧ r.blindAllowance < 65536
  charging : r.traceInterval < 256 ∧ r.maxAttempts < 256 ∧ r.overrideAllowed < 256 ∧ r.settleBand < 65536
  timing : r.number < 65536 ∧ r.settleCount < 256 ∧ r.settleTimeout < 65536 ∧ r.demouldLimit < 65536

/-- The law of the recipe store: a VALID slot holds a valid recipe with the check over it (R145); the write in flight
carries a valid recipe (R147); a row that is not FREE names a VALID slot that is not being written (R10, R147); the platen
has a recipe exactly while it is not OFF, and it names a VALID slot (R31, R32). -/
structure State.StoreLaw (s : State) : Prop where
  valid : ∀ k, (s.store.slots.get k).validity = .valid → ∃ r : Recipe, r.Valid ∧
    (s.store.slots.get k).image = .written r (Config.recipeCheck r.toBytes)
  written : ∀ k r check, (s.store.slots.get k).image = .written r check → r.Valid
  inFlight : ∀ w, s.store.write = some w → w.recipe.Valid
  rows : ∀ i k, (s.row i).state ≠ .free → (s.row i).recipe = some k →
    (s.store.slots.get k).validity = .valid ∧ s.store.write.map WriteInFlight.slot ≠ some k
  platen : s.regulator.platen = .off ↔ s.regulator.platenRecipe = none
  platenSlot : ∀ k, s.regulator.platenRecipe = some k → (s.store.slots.get k).validity = .valid

/-! ### Heater supply, settings, notices, counts -/

/-- The law of the heater supply (R54, R56): the outputs that are on number no more than the limit in force, and no zone is
owed more than the duty handed over for the frame. -/
structure State.SupplyLaw (s : State) : Prop where
  limit : (List.finRange 12).countP (fun z => (s.firing.zones.get z).output) ≤ s.firing.limit
  range : s.firing.limit ≤ 12
  owed : ∀ z, (s.firing.zones.get z).owed ≤ (s.firing.zones.get z).frameDuty

/-- Every settings field is in its range (R167, R168). -/
structure Settings.Law (c : Settings) : Prop where
  supplyLimit : c.supplyLimit ≤ 12
  holdLimit : c.holdLimit ≤ 12
  rankRange : ∀ z, c.firingRank.get z ≤ 11
  rankDistinct : ∀ z w, c.firingRank.get z = c.firingRank.get w → z = w
  stagger : ∀ z, c.stagger.get z ≤ 99
  sampleStaleMs : 100 ≤ c.sampleStaleMs ∧ c.sampleStaleMs ≤ 10000
  readyBand : 10 ≤ c.readyBand ∧ c.readyBand ≤ 500
  readyDwell : 1 ≤ c.readyDwell ∧ c.readyDwell ≤ 15
  idleLimit : c.idleLimit ≤ 65535
  setback : c.setback ≤ 4500
  tareBand : 1 ≤ c.tareBand ∧ c.tareBand ≤ 1000
  tareCount : 1 ≤ c.tareCount ∧ c.tareCount ≤ 14
  tareTimeout : 100 ≤ c.tareTimeout ∧ c.tareTimeout ≤ 10000
  tareLimit : c.tareLimit ≤ 60000
  emptyThreshold : c.emptyThreshold ≤ 60000
  nd : 1 ≤ c.nd ∧ c.nd ≤ 255
  ne : 1 ≤ c.ne ∧ c.ne ≤ 32
  autoA : isItem c.autoA = true
  autoB : isItem c.autoB = true

/-- The bytes of a settings field by its number, as R167 sizes and codes it. -/
def Settings.value (c : Settings) : Nat → List Byte
  | 1 => be2 c.supplyLimit
  | 2 => be2 c.holdLimit
  | 3 => c.firingRank.toList.map (BitVec.ofNat 8)
  | 4 => c.stagger.toList.map (BitVec.ofNat 8)
  | 5 => be2 c.sampleStaleMs
  | 6 => be2 c.readyBand
  | 7 => be2 c.readyDwell
  | 8 => be2 c.idleLimit
  | 9 => be2 c.setback
  | 10 => be2 c.tareBand
  | 11 => be2 c.tareCount
  | 12 => be2 c.tareTimeout
  | 13 => be2 c.tareLimit
  | 14 => be2 c.emptyThreshold
  | 15 => be2 c.interlockPattern.toNat
  | 16 => be2 c.nd
  | 17 => be2 c.ne
  | 18 => be2 (if c.endMarker then 1 else 0)
  | 19 => be2 c.autoA
  | 20 => be2 c.autoB
  | _ => []

/-- The law of the notices of a port (R163, R164): the set holds each kind once, in the order of the notice table, and the
attention line is asserted exactly while the set is not empty. -/
structure Port.NoticeLaw (q : Port) : Prop where
  once : q.notices.Pairwise fun a b => a.code < b.code
  attention : q.attention = !q.notices.isEmpty

/-- Every port keeps the law of the notices. -/
def State.NoticeLaw (s : State) : Prop := ∀ p, (s.port p).NoticeLaw

/-- The ranges of what a cavity slot collects (R64, R73, R76, R77, R118, R119). -/
structure Cavity.CountLaw (c : Cavity) : Prop where
  acc : c.acc ≤ 4294967295
  scorch : c.scorch ≤ 65535
  blind : c.blind ≤ 65535
  trace : c.trace.length ≤ 32
  notes : c.notes.length ≤ 8
  kinds : (c.notes.map Note.kind).Nodup
  noteCount : ∀ n ∈ c.notes, 1 ≤ n.count ∧ n.count ≤ 255
  dropped : c.notesDropped ≤ 255

/-- The ranges of the saturating counts and of the readback queue (R9, R26, R51, R60, R139, R156). -/
structure State.CountLaw (s : State) : Prop where
  cavities : ∀ i j, (s.cavity i j).CountLaw
  elapsed : ∀ i, (s.row i).elapsed ≤ 65535
  sampleErrors : s.regulator.sampleErrors ≤ 65535
  totalShortfall : ∀ z, (s.regulator.zones.get z).totalShortfall ≤ 65535
  integral : ∀ z, (s.regulator.zones.get z).integral ≤ 10000
  cellShortfall : s.firing.cellShortfall ≤ 65535
  readback : s.streamer.readback.length ≤ 16
  items : ∀ n ∈ s.streamer.readback, isItem n = true
  unitCount : s.streamer.unitCount ≤ 255
  frameErrors : ∀ p, (s.port p).frameErrors ≤ 65535
  overruns : ∀ p, (s.port p).overruns ≤ 65535

/-! ### A lawful state -/

/-- A state that keeps all the laws. -/
structure State.Lawful (s : State) : Prop where
  table : s.TableLaw
  ranks : s.RankLaw
  press : s.PressLaw
  cavities : s.CavityLaw
  grant : s.GrantLaw
  uncleared : s.UnclearedLaw
  ring : s.RingLaw
  reserved : s.ReservedLaw
  store : s.StoreLaw
  supply : s.SupplyLaw
  settings : s.settings.Law
  notices : s.NoticeLaw
  counts : s.CountLaw

end Sys2Proof.Machine
end

