-- ==== Sys2Proof/Certificates/Slice0/Obligations.lean ====
section
/-! DEFINITION. The statements for the provers, listed in OBLIGATIONS.json. Each is about every state and every operand that
meets its hypotheses; none is about a program, and none depends on the value of a free constant of Config.

A result statement gives the whole next state: what it does not name is as it was (`t = { s with … }`). -/

open Sys2Proof Sys2Proof.Machine

/-! ### The step -/

/-- A step takes the command at the front of the queue and runs it on the state with the rest of the queue. -/
def Obligations.StepRunsTheFrontCommand : Prop :=
  ∀ (c : Instr) (rest : List Instr) (s : State),
    step { s with pending := c :: rest } = exec c { s with pending := rest }

/-- With no command waiting, a step lets time pass; that it does so is the model's choice (log 1). A timer expiry is due
where the unit, frame or slot timer has run down (R50, R133; no slot follows slot 99), where a row's step timer or row timer
has (R7, R9), where a settle run has reached its timeout (R88) or a recipe write its 40 ms (R149, with the strap as it
stands, log 4), where IDLE_LIMIT, which 0 holds off, is reached (R38), and where more than 10 ms have passed within a frame
(R158). With none due, one millisecond passes (R170): every timer has 1 ms less to go, and the strap takes the level that the
board gives it next (log 4). With one due it happens; with several, one of them does, and the counter behind the free order
advances (log 2). -/
def Obligations.EmptyQueueLetsTimePass : Prop :=
  ∀ s : State, s.pending = [] →
    let due : Instr → Prop := fun c =>
      (c = .unitTimer ∧ s.streamer.unitTimer = 0) ∨
      (c = .frameStart ∧ s.firing.frameTimer = 0) ∨
      (c = .slotStart ∧ s.firing.slotTimer = 0 ∧ ∃ k, s.firing.slot = some k ∧ k < 99) ∨
      (∃ i, c = .cureStep i ∧ (s.row i).stepTimer = some 0) ∨
      (∃ i, c = .maxCureExpiry i ∧ (s.row i).state = .curing ∧ (s.row i).rowTimer = some 0) ∨
      (∃ i, c = .demouldExpiry i ∧ (s.row i).state = .opened ∧ (s.row i).rowTimer = some 0) ∨
      (c = .settleRunTimeout ∧ ∃ run, s.weigh.run = some run ∧ run.timeout ≤ elapsed s.clock run.start) ∨
      (c = .recipeWriteComplete s.pins.strap ∧ ∃ w, s.store.write = some w ∧ 40 ≤ elapsed s.clock w.accepted) ∨
      (c = .idleExpiry ∧ s.settings.idleLimit ≠ 0 ∧
        ∃ start, s.regulator.idleTimer = some start ∧ s.settings.idleLimit ≤ elapsed s.clock start / 1000) ∨
      (∃ p bytes at_, c = .frameGapTimeout p ∧ (s.port p).receiver = .inFrame bytes at_ ∧ 10 < elapsed s.clock at_)
    ((∀ c, ¬due c) → ∃ t, step s = .next t ∧
      t = { s with
        clock := s.clock + 1
        pins := { s.pins with
          strap := s.pins.strapAhead.headD s.pins.strap
          strapAhead := s.pins.strapAhead.tail }
        rows := t.rows
        firing := { s.firing with
          frameTimer := s.firing.frameTimer - 1
          slotTimer := s.firing.slotTimer - 1 }
        streamer := { s.streamer with unitTimer := s.streamer.unitTimer - 1 } } ∧
      ∀ i, t.row i = { s.row i with
        rowTimer := (s.row i).rowTimer.map fun ms => ms - 1
        stepTimer := (s.row i).stepTimer.map fun ms => ms - 1 }) ∧
    (∀ c, due c → (∀ other, due other → other = c) → step s = exec c s) ∧
    (∀ c other, due c → due other → other ≠ c →
      ∃ first, due first ∧ step s = exec first { s with raceCount := s.raceCount + 1 })

/-- Every command is answered with a next state, and so is every step: the part has no fault, and the model refuses
nothing. -/
def Obligations.EveryCommandIsAnswered : Prop :=
  (∀ (c : Instr) (s : State), ∃ t, exec c s = .next t) ∧ ∀ s : State, ∃ t, step s = .next t

/-! ### Reset -/

/-- The state after power-up keeps all the laws. -/
def Obligations.ResetStateIsLawful : Prop := State.reset.Lawful

/-- RESET (R1, R145, R146, R151): the blocks return to their reset values, which are those of `State.reset`; a slot keeps its
contents, but for one whose write is in flight, which is cut short; each slot is verified; the lock follows the strap; where a
slot is CORRUPT, STORE_CORRUPT is raised on the records port and the fault flag is set. The model's choices in it: the counter
behind the free order stays (log 2); the levels of the pins and of the interlock inputs stay (log 3); the strap's level comes
with the command and is kept among the pins (log 4); a slot cut short is CORRUPT until it is written (log 8); no reply stands
for the command (log 6), and the slot timer is 0 (log 17). -/
def Obligations.ResetRestoresTheResetValues : Prop :=
  ∀ (strap : Bool) (s : State), ∃ (slots : Vec StoreSlot 8),
    (∀ k, (slots.get k).image =
      if s.store.write.map WriteInFlight.slot = some k then .torn else (s.store.slots.get k).image) ∧
    (∀ k, (slots.get k).image = .erased → (slots.get k).validity = .empty) ∧
    (∀ k, (slots.get k).image = .torn → (slots.get k).validity = .corrupt) ∧
    (∀ k r check, (slots.get k).image = .written r check →
      (slots.get k).validity = if check = Config.recipeCheck r.toBytes then .valid else .corrupt) ∧
    exec (.reset strap) s = .next
      { State.reset with
        pending := s.pending
        raceCount := s.raceCount
        pins := { s.pins with strap := strap }
        extraction := { State.reset.extraction with inputs := s.extraction.inputs }
        store := { slots := slots, lock := if strap then .locked else .unlocked, write := none }
        streamer := { State.reset.streamer with fault := slots.any fun k => k.validity == .corrupt }
        ports := { State.reset.ports with
          records := if slots.any fun k => k.validity == .corrupt then
            { Port.initial with notices := [.storeCorrupt], attention := true } else Port.initial } }

/-! ### The laws that every step keeps -/

/-- Every step keeps the laws of the rows (FREE rows in the freed condition, one row to a shot, one recipe slot named) and
the ranks 1 to the number of rows that are not FREE, without gaps. -/
def Obligations.TableLawsKept : Prop := ∀ s t : State, s.Lawful → step s = .next t → t.TableLaw ∧ t.RankLaw

/-- Every step keeps at most one row in the closed press, with the row timers and close-permit flags that go with it. -/
def Obligations.PressLawKept : Prop := ∀ s t : State, s.Lawful → step s = .next t → t.PressLaw

/-- Every step keeps each cavity slot's sub-states fitting the state of its row. -/
def Obligations.CavityLawKept : Prop := ∀ s t : State, s.Lawful → step s = .next t → t.CavityLaw

/-- Every step keeps the law of the one extraction grant. -/
def Obligations.GrantLawKept : Prop := ∀ s t : State, s.Lawful → step s = .next t → t.GrantLaw

/-- Every step keeps the uncleared count at the number of cavities in the tool. -/
def Obligations.UnclearedLawKept : Prop := ∀ s t : State, s.Lawful → step s = .next t → t.UnclearedLaw

/-- Every step keeps the laws of the history ring and the record queue. -/
def Obligations.RingLawKept : Prop := ∀ s t : State, s.Lawful → step s = .next t → t.RingLaw

/-- Every step keeps the law of the reservations. -/
def Obligations.ReservedLawKept : Prop := ∀ s t : State, s.Lawful → step s = .next t → t.ReservedLaw

/-- Every step keeps the law of the recipe store: the recipes that rows and platen name are valid. -/
def Obligations.StoreLawKept : Prop := ∀ s t : State, s.Lawful → step s = .next t → t.StoreLaw

/-- Every step keeps the heater outputs within the limit in force, and the owed slots within the duty handed over. -/
def Obligations.SupplyLawKept : Prop := ∀ s t : State, s.Lawful → step s = .next t → t.SupplyLaw

/-- Every step keeps every settings field in its range. -/
def Obligations.SettingsLawKept : Prop := ∀ s t : State, s.Lawful → step s = .next t → t.settings.Law

/-- Every step keeps each notice set free of duplicates, and the attention line asserted exactly while it is not empty. -/
def Obligations.NoticeLawKept : Prop := ∀ s t : State, s.Lawful → step s = .next t → t.NoticeLaw

/-- Every step keeps the saturating counts and the lists of bounded length in their ranges. -/
def Obligations.CountLawKept : Prop := ∀ s t : State, s.Lawful → step s = .next t → t.CountLaw

/-! ### Frames and requests -/

/-- Decoding the encoding of a request gives the request back, for every request a controller may send on a port and every
value its fields allow (R157, R160, R162). -/
def Obligations.RequestsDecodeToThemselves : Prop :=
  ∀ (p : PortId) (i : Instr), i.wellFormed = true → i.sentOn p = true →
    ∃ kind, i.kindByte = some kind ∧ decodeRequest p kind i.payload = .ok i

/-- The frame of a request acts as the request's own row does (R158 to R161): arriving whole on a port that hunts and holds
no frame, it leaves the part in the state that the request's block leaves, and the port holds the frame with the bytes of
the reply. The reply field of the model is that of the request's own row (log 6). -/
def Obligations.RequestFrameActsAsItsRow : Prop :=
  ∀ (p : PortId) (i : Instr) (kind : Byte) (s : State), i.wellFormed = true → i.sentOn p = true →
    i.kindByte = some kind → (s.port p).receiver = .hunting → (s.port p).waiting = none →
    ∃ (u : State) (r : Reply), u.reply = s.reply ∧
      exec i s = .next { u with reply := some (p, r) } ∧
      exec (.frameReceived p (frameBytes kind i.payload)) s = .next
        { u with ports := u.ports.set p { u.port p with
          waiting := some { kind := kind, payload := i.payload, reply := frameBytes kind r.bytes } } }

/-- The catalogue (R162): each request with its kind, the role allowed to send it (`none`: any) and the size of its payload
(`none`: R168 checks it). A frame carries a request only where its kind is in the catalogue, the port's role may send it and
the payload has its size, and then that request with the payload's values; a frame that fails one of the three is refused with
the first of UNKNOWN_REQUEST, REFUSED_ROLE and MALFORMED that holds, and changes nothing but its port's waiting frame (R160). A
frame that is taken is the encoding of its request, sent on a port that may send it. -/
def Obligations.RefusedFrameChangesNothingElse : Prop :=
  (∀ (p : PortId) (kind : Byte) (payload : List Byte),
    let shot := wordAt payload 0
    let byte := byteAt payload
    let catalogued : List (Byte × Option PortId × Option Nat × Instr) :=
      [(0x10#8, some .press, some 3, .openCycle shot (byte 2)), (0x11#8, some .press, some 2, .abortCycle shot),
       (0x12#8, some .press, some 2, .closePermit shot), (0x13#8, some .press, some 2, .closed shot),
       (0x14#8, some .press, some 2, .opened shot), (0x15#8, some .press, some 2, .releaseQuery shot),
       (0x16#8, some .press, some 1, .heatOn (byte 0)), (0x17#8, some .press, some 0, .heatOff),
       (0x20#8, some .charge, some 0, .tare), (0x21#8, some .charge, some 3, .weigh shot (byte 2)),
       (0x22#8, some .charge, some 0, .weighCancel), (0x23#8, some .charge, some 0, .weighResult),
       (0x24#8, some .charge, some 3, .admitCharge shot (byte 2)),
       (0x25#8, some .charge, some 3, .admitOverride shot (byte 2)),
       (0x30#8, some .extract, some 3, .extractGrant shot (byte 2)),
       (0x31#8, some .extract, some 4, .extractDone shot (byte 2) (byte 3)),
       (0x32#8, some .extract, some 3, .clear shot (byte 2)), (0x40#8, some .records, none, .settingsWrite payload),
       (0x41#8, some .records, some 214, .recipeWrite payload), (0x42#8, some .records, some 0, .lockStore),
       (0x43#8, some .records, some 0, .unlockStore),
       (0x44#8, some .records, some 4, .runSet (byte 0) (byte 1) (wordAt payload 2)),
       (0x45#8, some .records, some 0, .cellClear), (0x01#8, none, some 0, .status p), (0x02#8, none, some 0, .poll p),
       (0x03#8, none, some 1, .readback p (byte 0)), (0x04#8, none, some 1, .recipeRead p (byte 0)),
       (0x05#8, none, some 1, .runQuery p (byte 0)), (0x06#8, none, some 0, .settingsRead p),
       (0x07#8, none, some 2, .cycleQuery p shot)]
    ((∀ e ∈ catalogued, e.1 ≠ kind) → decodeRequest p kind payload = .error .unknownRequest) ∧
    (∀ role size i, (kind, role, size, i) ∈ catalogued →
      (role ≠ none → role ≠ some p → decodeRequest p kind payload = .error .refusedRole) ∧
      (role = none ∨ role = some p →
        (size ≠ none → size ≠ some payload.length → decodeRequest p kind payload = .error .malformed) ∧
        (size = none ∨ size = some payload.length → decodeRequest p kind payload = .ok i))) ∧
    ∀ i, decodeRequest p kind payload = .ok i → i.sentOn p = true ∧ i.kindByte = some kind ∧ i.payload = payload) ∧
  ∀ (p : PortId) (kind : Byte) (payload : List Byte) (s : State), payload.length ≤ 254 →
    (s.port p).receiver = .hunting → (s.port p).waiting = none →
    (∀ code : ResultCode,
      (catalogue kind.toNat = none ∧ code = .unknownRequest) ∨
      (∃ sender, catalogue kind.toNat = some sender ∧ sender.allows p = false ∧ code = .refusedRole) ∨
      (∃ sender, catalogue kind.toNat = some sender ∧ sender.allows p = true ∧
        requestOf p kind.toNat payload = none ∧ code = .malformed) ∨
      (decodeRequest p kind payload = .error .unknownRequest ∧ code = .unknownRequest) ∨
      (decodeRequest p kind payload = .error .refusedRole ∧ code = .refusedRole) ∨
      (decodeRequest p kind payload = .error .malformed ∧ code = .malformed) →
      exec (.frameReceived p (frameBytes kind payload)) s = .next
        { s with ports := s.ports.set p { s.port p with
          waiting := some { kind := kind, payload := payload,
                            reply := frameBytes kind [BitVec.ofNat 8 code.code] } } })

/-- A good frame that arrives while a frame is waiting is discarded and counted as an overrun; a frame whose check disagrees,
a frame of length 0, and a frame left unfinished for too long are discarded and counted as damaged; no reply is formed. The
last byte of a reply ends the waiting frame. While hunting, 0x7E starts a frame and every other byte is discarded. In a frame
the receiver keeps the bytes and the time of the last one; a frame that arrives in parts, no more than 10 ms apart, acts as
the whole frame does; a byte that comes later than that finds the frame damaged and counted, and is taken as a hunting byte.
Nothing else changes (R158, R159). That REPLY_SENT on a port without a waiting frame changes nothing is the model's choice
(log 15). -/
def Obligations.LinkEventsCountAndClear : Prop :=
  ∀ (p : PortId) (s : State),
    let damaged := fun (c : Instr) => exec c s = .next
      { s with ports := s.ports.set p { s.port p with
        receiver := .hunting
        frameErrors := min ((s.port p).frameErrors + 1) 65535 } }
    ((s.port p).receiver = .hunting →
      (∀ (kind : Byte) (payload : List Byte) (w : WaitingFrame), payload.length ≤ 254 → (s.port p).waiting = some w →
        exec (.frameReceived p (frameBytes kind payload)) s = .next
          { s with ports := s.ports.set p { s.port p with overruns := min ((s.port p).overruns + 1) 65535 } }) ∧
      (∀ (len hi lo : Byte) (body : List Byte), len ≠ 0#8 → body.length = len.toNat →
        [hi, lo] ≠ be2 (crc16 (len :: body)).toNat →
        damaged (.frameReceived p (0x7E#8 :: len :: (body ++ [hi, lo])))) ∧
      damaged (.frameReceived p [0x7E#8, 0#8])) ∧
    (∀ (bytes : List Byte) (at_ : Clock), (s.port p).receiver = .inFrame bytes at_ → damaged (.frameGapTimeout p)) ∧
    (let receiving := fun (r : Receiver) (errors : Nat) =>
      ({ s with ports := s.ports.set p { s.port p with receiver := r, frameErrors := errors } } : State)
    let errors := (s.port p).frameErrors
    let unfinished := fun (bytes : List Byte) =>
      ∀ len rest, bytes = len :: rest → len ≠ 0#8 ∧ rest.length < len.toNat + 2
    ((s.port p).receiver = .hunting →
      (∀ noise : List Byte, (∀ b ∈ noise, b ≠ 0x7E#8) → exec (.frameReceived p noise) s = .next s ∧
        ∀ more, exec (.frameReceived p (noise ++ more)) s = exec (.frameReceived p more) s) ∧
      (∀ bytes, unfinished bytes →
        exec (.frameReceived p (0x7E#8 :: bytes)) s = .next (receiving (.inFrame bytes s.clock) errors))) ∧
    (∀ first second : List Byte, ∃ t : State, exec (.frameReceived p first) s = .next t ∧
      exec (.frameReceived p (first ++ second)) s = exec (.frameReceived p second) t) ∧
    (∀ (bytes : List Byte) (at_ : Clock) (b : Byte) (more : List Byte), (s.port p).receiver = .inFrame bytes at_ →
      (elapsed s.clock at_ ≤ 10 → unfinished bytes → exec (.frameReceived p (b :: more)) s =
        exec (.frameReceived p (0x7E#8 :: (bytes ++ b :: more))) (receiving .hunting errors)) ∧
      (10 < elapsed s.clock at_ → exec (.frameReceived p (b :: more)) s =
        exec (.frameReceived p (b :: more)) (receiving .hunting (min (errors + 1) 65535))))) ∧
    exec (.replySent p) s = .next { s with ports := s.ports.set p { s.port p with waiting := none } }

/-- A raised notice is in its port's set afterwards, with every kind that was there and no other, and asserts the attention
line (R164); POLL reports the kinds of the port's set in the order of the notice table, empties the set, releases the
attention line, and changes nothing else (R165). -/
def Obligations.NoticesAreRaisedAndPolled : Prop :=
  (∀ (p : PortId) (k : NoticeKind) (s : State),
    (∀ x, x ∈ ((s.raise p k).port p).notices ↔ x = k ∨ x ∈ (s.port p).notices) ∧
    ((s.raise p k).port p).attention = true ∧
    ∃ notices, s.raise p k = { s with ports := s.ports.set p { s.port p with
      notices := notices, attention := true } }) ∧
  ∀ (p : PortId) (s : State), (s.port p).NoticeLaw → ∃ kinds : List NoticeKind,
    (∀ x, x ∈ kinds ↔ x ∈ (s.port p).notices) ∧ kinds.Pairwise (fun a b => a.code < b.code) ∧
    exec (.poll p) s = .next
      { s with
        ports := s.ports.set p { s.port p with notices := [], attention := false }
        reply := some (p, ⟨.done, .byte kinds.length :: kinds.map fun k => .byte k.code⟩) }

/-! ### The cycle table -/

/-- An OPEN_CYCLE that passes every check of R10 takes the lowest-numbered FREE row and enables the cavities that R11 chooses;
what becomes of the platen is R34's, and from READY R37's. -/
def Obligations.OpenCycleTakesTheLowestFreeRow : Prop :=
  ∀ (s : State) (shot : Nat) (k i : Fin 8),
    s.NamesNone shot → s.store.write.map WriteInFlight.slot ≠ some k → (s.store.slots.get k).validity = .valid →
    (∀ m, (s.row m).state ≠ .free → (s.row m).recipe = some k) → (s.runs.get k).mode ≠ .unset →
    (s.row i).state = .free → (∀ m, m < i → (s.row m).state ≠ .free) →
    ((s.runs.get k).mode = .counted → (s.runs.get k).reserved < (s.runs.get k).remaining) →
    ∃ (t : State) (chosen : Fin 8 → Bool),
      let stays := (s.regulator.platen = .warming ∨ s.regulator.platen = .ready) ∧ s.regulator.platenRecipe = some k
      let leaves := s.regulator.platen = .ready ∧ s.regulator.platenRecipe ≠ some k
      let n := (List.finRange 8).countP chosen
      exec (.openCycle shot k.val) s = .next t ∧
      (∀ j, chosen j = true ↔ (s.recipeAt k).enabled.get j = true ∧
        ((s.runs.get k).mode = .counted →
          ((List.finRange 8).countP fun m => decide (m < j) && (s.recipeAt k).enabled.get m)
            < (s.runs.get k).remaining - (s.runs.get k).reserved)) ∧
      t.row i =
        { Row.freed with
          state := .open_
          shot := some shot
          recipe := some k
          rank := some (s.liveRows + 1)
          timeOpened := some s.clock
          cavities := Vec.ofFn fun j => { Cavity.freed with charge := if chosen j then .awaitCharge else .empty } } ∧
      (∀ m, m ≠ i → t.row m =
        { s.row m with permit := (s.row m).permit && !decide (leaves ∧ (s.row m).state = .charged) }) ∧
      t.runs = s.runs.set k { s.runs.get k with reserved := (s.runs.get k).reserved + n } ∧
      t.regulator = { s.regulator with
        idleTimer := none
        platen := if stays then s.regulator.platen else .warming
        platenRecipe := some k
        dwell := if stays then s.regulator.dwell else 0 } ∧
      t.ports = { s.ports with
        charge := s.ports.charge.raise .cycleOpened
        press := if leaves then s.ports.press.raise .platenNotReady else s.ports.press } ∧
      t = { s with
        rows := t.rows
        runs := t.runs
        regulator := t.regulator
        ports := t.ports
        reply := some (.press, ⟨.done, [.byte i.val, .byte n]⟩) }

/-- A refused OPEN_CYCLE is answered with the first condition of R10 that holds, and changes no state (R10). -/
def Obligations.OpenCycleRefusalsFollowTheirOrder : Prop :=
  ∀ (s : State) (shot recipe : Nat),
    let answers := fun (code : ResultCode) =>
      exec (.openCycle shot recipe) s = .next { s with reply := some (.press, ⟨code, []⟩) }
    (shot = 0 ∨ 7 < recipe → answers .malformed) ∧
    ∀ k : Fin 8, k.val = recipe → ShotNumber shot →
      ((∃ m, (s.row m).state ≠ .free ∧ (s.row m).shot = some shot) → answers .duplicateShot) ∧
      (s.NamesNone shot →
        (s.store.write.map WriteInFlight.slot = some k → answers .busy) ∧
        (s.store.write.map WriteInFlight.slot ≠ some k →
          ((s.store.slots.get k).validity ≠ .valid → answers .recipeInvalid) ∧
          ((s.store.slots.get k).validity = .valid →
            ((∃ m, (s.row m).state ≠ .free ∧ (s.row m).recipe ≠ some k) → answers .recipeConflict) ∧
            ((∀ m, (s.row m).state ≠ .free → (s.row m).recipe = some k) →
              ((s.runs.get k).mode = .unset → answers .noRun) ∧
              ((s.runs.get k).mode ≠ .unset →
                ((∀ m, (s.row m).state ≠ .free) → answers .tableFull) ∧
                ((∃ m, (s.row m).state = .free) → (s.runs.get k).mode = .counted →
                  (s.runs.get k).remaining - (s.runs.get k).reserved = 0 → answers .runComplete))))))

/-- Freeing a row (R1, R3, R23, R95): the row returns to the freed condition, the ranks of younger rows fall by 1, the run
in flight and the last weigh result of that row are orphaned, and the idle timer starts where no row is left. -/
def Obligations.FreeingARowClosesTheRanks : Prop :=
  ∀ (s : State) (i : Fin 8), (s.row i).state ≠ .free → ∀ g, (s.row i).rank = some g →
    let t := s.freeRow i
    t.row i = Row.freed ∧
    (∀ m, m ≠ i → t.row m =
      { s.row m with rank := (s.row m).rank.map fun n => if g < n then n - 1 else n }) ∧
    t.weigh = { s.weigh with
      run := s.weigh.run.map fun run =>
        { run with ticket := run.ticket.map fun w => { w with orphaned := w.orphaned || decide (w.row = i) } }
      result := s.weigh.result.map fun r => { r with orphaned := r.orphaned || decide (r.row = i) } } ∧
    t.regulator = { s.regulator with
      idleTimer := if ∀ m, m ≠ i → (s.row m).state = .free then some s.clock else s.regulator.idleTimer } ∧
    t = { s with rows := t.rows, weigh := t.weigh, regulator := t.regulator }

/-- ABORT_CYCLE of a row in OPEN or CHARGED releases the reservations of its AWAIT_CHARGE and CHARGED cavities and frees the
row; of a row in another state it is answered WRONG_STATE and changes nothing (R12, R13). -/
def Obligations.AbortCycleReleasesAndFrees : Prop :=
  ∀ (s : State) (shot : Nat) (i k : Fin 8), s.Names shot i → (s.row i).recipe = some k →
    ((s.row i).state = .open_ ∨ (s.row i).state = .charged →
      exec (.abortCycle shot) s = .next
        { ({ s with runs := s.runs.set k { s.runs.get k with
              reserved := (s.runs.get k).reserved - (List.finRange 8).countP fun j =>
                decide ((s.cavity i j).charge = .awaitCharge ∨ (s.cavity i j).charge = .charged) } } : State).freeRow i with
          reply := some (.press, ⟨.done, []⟩) }) ∧
    ((s.row i).state ≠ .open_ → (s.row i).state ≠ .charged →
      exec (.abortCycle shot) s = .next { s with reply := some (.press, ⟨.wrongState, []⟩) })

/-- CLOSE_PERMIT is granted, and sets the row's flag, where the four conditions of R14 fail; otherwise it is denied with the
reason of the first that holds, and changes nothing (R14). -/
def Obligations.ClosePermitChecksFourConditions : Prop :=
  ∀ (s : State) (shot : Nat) (i : Fin 8), s.Names shot i →
    let denied := fun (why : DenyReason) =>
      exec (.closePermit shot) s = .next { s with reply := some (.press, ⟨.denied, [.byte why.code]⟩) }
    let toolBusy := ∃ k j, k ≠ i ∧ (s.row k).state ≠ .free ∧ (s.cavity k j).InTool
    let pressBusy := ∃ k, k ≠ i ∧ (s.row k).Pressed
    ((s.row i).state ≠ .charged → denied .notCharged) ∧
    ((s.row i).state = .charged →
      (s.regulator.platen ≠ .ready → denied .platenNotReady) ∧
      (s.regulator.platen = .ready →
        (toolBusy → denied .toolNotClear) ∧
        (¬toolBusy → pressBusy → denied .pressBusy) ∧
        (¬toolBusy → ¬pressBusy →
          exec (.closePermit shot) s = .next
            { s with
              rows := s.rows.set i { s.row i with permit := true }
              reply := some (.press, ⟨.granted, []⟩) })))

/-- A CLOSED report that fits the table closes its row: AWAIT_CHARGE cavities become VOID and release their reservations,
part-bearing cavities are IN_TOOL and CURING with the accumulator at 0 and, without a permit, the note UNPERMITTED_CLOSE;
both timers start; every close-permit flag is cleared; a row without a part is RELEASABLE at once (R6, R17). -/
def Obligations.ClosedStartsTheCure : Prop :=
  ∀ (s : State) (shot : Nat) (i k : Fin 8), s.Names shot i → (s.row i).recipe = some k →
    (s.row i).state = .open_ ∨ (s.row i).state = .charged → (∀ m, m ≠ i → ¬(s.row m).Pressed) →
    ∃ t : State, exec (.closed shot) s = .next t ∧
      (let empty := ∀ j, (s.cavity i j).charge ≠ .charged
      (∀ j, t.cavity i j =
        match (s.cavity i j).charge with
        | .charged =>
          { (if (s.row i).permit then s.cavity i j else (s.cavity i j).giveNote .unpermittedClose 0) with
            tool := .inTool, cure := .curing, acc := 0 }
        | .awaitCharge => { s.cavity i j with charge := .void }
        | _ => s.cavity i j) ∧
      t.row i = { s.row i with
        state := if empty then .releasable else .curing
        permit := false
        timeClosed := some s.clock
        rowTimer := if empty then none else some ((s.recipeAt k).maxCure * 1000)
        stepTimer := some 1000
        elapsed := 0
        cavities := (t.row i).cavities } ∧
      (∀ m, m ≠ i → t.row m = { s.row m with
        permit := (s.row m).permit && !decide ((s.row m).state = .charged) }) ∧
      t.runs = s.runs.set k { s.runs.get k with
        reserved := (s.runs.get k).reserved - (List.finRange 8).countP fun j =>
          decide ((s.cavity i j).charge = .awaitCharge) } ∧
      t.extraction = { s.extraction with
        uncleared := s.extraction.uncleared + (List.finRange 8).countP fun j =>
          decide ((s.cavity i j).charge = .charged) } ∧
      t.ports = { s.ports with press := if empty then s.ports.press.raise .releasable else s.ports.press } ∧
      t = { s with
        rows := t.rows
        runs := t.runs
        extraction := t.extraction
        ports := t.ports
        reply := some (.press, ⟨.done, []⟩) })

/-- A physical report that does not fit the table is answered UNKNOWN_SHOT or SEQUENCE, raises CELL_FAULT on the press port
and on the records port, sets the fault flag, and changes nothing else; one with shot 0 is MALFORMED and raises nothing
(R2, R16, R109). -/
def Obligations.MisfitReportsRaiseCellFault : Prop :=
  ∀ (s : State) (shot : Nat),
    let misfit := fun (p : PortId) (c : Instr) (code : ResultCode) =>
      exec c s = .next { s with
        ports := { s.ports with
          press := s.ports.press.raise .cellFault
          records := s.ports.records.raise .cellFault }
        streamer := { s.streamer with fault := true }
        reply := some (p, ⟨code, []⟩) }
    let malformed := fun (p : PortId) (c : Instr) => exec c s = .next { s with reply := some (p, ⟨.malformed, []⟩) }
    (s.NamesNone shot →
      misfit .press (.closed shot) .unknownShot ∧ misfit .press (.opened shot) .unknownShot ∧
      ∀ (j : Fin 8) (outcome : Nat), outcome = 1 ∨ outcome = 2 →
        misfit .extract (.extractDone shot j.val outcome) .unknownShot) ∧
    (∀ i, s.Names shot i →
      ((s.row i).Pressed ∨ (s.row i).state = .opened ∨ (∃ m, m ≠ i ∧ (s.row m).Pressed) →
        misfit .press (.closed shot) .sequence) ∧
      (¬(s.row i).Pressed → misfit .press (.opened shot) .sequence) ∧
      ((s.row i).state ≠ .opened → ∀ (j : Fin 8) (outcome : Nat), outcome = 1 ∨ outcome = 2 →
        misfit .extract (.extractDone shot j.val outcome) .sequence)) ∧
    (shot = 0 → malformed .press (.closed shot) ∧ malformed .press (.opened shot)) ∧
    ∀ cavity outcome : Nat, shot = 0 ∨ 7 < cavity ∨ (outcome ≠ 1 ∧ outcome ≠ 2) →
      malformed .extract (.extractDone shot cavity outcome)

/-- An OPENED report for a row in the press forces the cavities still CURING, stops the step timer, loads DEMOULD_LIMIT,
enters OPENED and raises PRESS_OPENED; a row whose cavities are all clear of the tool and recorded is freed in the same
event (R18). -/
def Obligations.OpenedEndsTheCure : Prop :=
  ∀ (s : State) (shot : Nat) (i k : Fin 8), s.Names shot i → (s.row i).recipe = some k → (s.row i).Pressed →
    ∀ closedAt, (s.row i).timeClosed = some closedAt →
    ∃ u : State,
      (∀ j, u.cavity i j =
        if (s.cavity i j).cure = .curing then
          { (s.cavity i j).giveNote .forcedOpen (min (elapsed s.clock closedAt / 1000) 65535) with cure := .forced }
        else s.cavity i j) ∧
      u.row i = { s.row i with
        state := .opened
        timePressOpened := some s.clock
        stepTimer := none
        rowTimer := some ((s.recipeAt k).demouldLimit * 1000)
        cavities := (u.row i).cavities } ∧
      u = { s with
        rows := s.rows.set i (u.row i)
        ports := { s.ports with extract := s.ports.extract.raise .pressOpened } } ∧
      (let done := ∀ j, ¬(s.cavity i j).InTool ∧
        ((s.cavity i j).record = .recorded ∨
          (s.cavity i j).record = .notDue ∧ (s.cavity i j).charge ≠ .charged)
      exec (.opened shot) s = .next
        { (if done then u.freeRow i else u) with reply := some (.press, ⟨.done, []⟩) })

/-- RELEASE_QUERY answers the row's state, the least cure progress of its part-bearing cavities and the elapsed cure
seconds (R19); CYCLE_QUERY of a shot answers the row, its cavities, and the charge record and TARGET_ADJ of each CHARGED
cavity (R20), and of shot 0 the number of FREE rows, the running recipe, and the rows that are not FREE in age order (R21).
Neither changes any state. The step timer as one byte, and the charge records behind all eight cavities, are the model's
layout (logs 9 and 10). -/
def Obligations.RowQueriesChangeNothing : Prop :=
  ∀ s : State,
    (∀ (shot : Nat) (i : Fin 8), s.Names shot i →
      (∃ progress ≤ 100,
        ((∃ j, (s.cavity i j).charge = .charged) →
          (∀ j, (s.cavity i j).charge = .charged →
            progress ≤ (s.cavity i j).acc * 100 / ((s.cavity i j).targetAdj.getD 0 * 256)) ∧
          (progress = 100 ∨ ∃ j, (s.cavity i j).charge = .charged ∧
            progress = (s.cavity i j).acc * 100 / ((s.cavity i j).targetAdj.getD 0 * 256))) ∧
        ((∀ j, (s.cavity i j).charge ≠ .charged) →
          progress = if (s.row i).Pressed ∨ (s.row i).state = .opened then 100 else 0) ∧
        exec (.releaseQuery shot) s = .next
          { s with
            reply := some (.press, ⟨.done, [.byte (s.row i).state.code, .byte progress, .word (s.row i).elapsed]⟩) }) ∧
      (let r := s.row i
      let time := fun t : Option Clock => [ReplyField.flag t.isSome, .long ((t.map BitVec.toNat).getD 0)]
      let charge := fun j : Fin 8 => match (if (s.cavity i j).charge = .charged then (s.cavity i j).chargeRec else none) with
        | some q => [ReplyField.flag true, .word q.net, .byte q.cls.code, .flag q.override, .byte q.attempts,
            .long q.admitTime.toNat, .word ((s.cavity i j).targetAdj.getD 0)]
        | none => [.flag false, .word 0, .byte 0, .flag false, .byte 0, .long 0, .word 0]
      (s.row i).statusFields i =
        [.byte i.val, .word shot, .byte ((r.recipe.map Fin.val).getD 0), .byte r.state.code, .byte (r.rank.getD 0),
          .flag r.permit] ++ time r.timeOpened ++ time r.timeClosed ++ time r.timePressOpened ++
        [.flag r.rowTimer.isSome, .word ((r.rowTimer.getD 0 + 999) / 1000), .flag r.stepTimer.isSome, .word r.elapsed] ++
        ((List.finRange 8).flatMap fun j =>
          let c := s.cavity i j
          [ReplyField.byte c.charge.code, .byte c.attempts, .byte c.cure.code, .byte c.tool.code, .byte c.record.code,
            .flag c.verdict.isSome, .byte ((c.verdict.map Verdict.code).getD 0)]) ++
        (List.finRange 8).flatMap charge) ∧
      ∀ p : PortId,
        exec (.cycleQuery p shot) s = .next { s with reply := some (p, ⟨.done, (s.row i).statusFields i⟩) }) ∧
    (∀ p : PortId, exec (.cycleQuery p 0) s = .next { s with reply := some (p, ⟨.done, s.tableFields⟩) }) ∧
    (s.TableLaw → s.RankLaw → ∃ rows : List (Fin 8),
      rows.Pairwise (fun a b => (s.row a).rank.getD 0 < (s.row b).rank.getD 0) ∧
      (∀ i, i ∈ rows ↔ (s.row i).state ≠ .free) ∧
      ∃ running : List ReplyField,
        ((∀ m, (s.row m).state = .free) → running = [.flag false, .byte 0]) ∧
        (∀ m k, (s.row m).state ≠ .free → (s.row m).recipe = some k → running = [.flag true, .byte k.val]) ∧
        s.tableFields = [.byte (8 - rows.length)] ++ running ++ [.byte rows.length] ++
          rows.flatMap fun m => [ReplyField.byte m.val, .word ((s.row m).shot.getD 0), .byte (s.row m).state.code])

/-- When the row timer of a row in CURING expires, its cavities still CURING become TIMED_OUT and the row enters RELEASABLE,
its row timer stopped, with RELEASABLE raised on the press port (R8). -/
def Obligations.MaxCureExpiryTimesOut : Prop :=
  ∀ (s : State) (i : Fin 8) (ms : Nat), (s.row i).state = .curing → (s.row i).rowTimer = some ms →
    exec (.maxCureExpiry i) s = .next
      { s with
        rows := s.rows.set i { s.row i with
          state := .releasable
          rowTimer := none
          cavities := Vec.ofFn fun j => { s.cavity i j with
            cure := if (s.cavity i j).cure = .curing then .timedOut else (s.cavity i j).cure } }
        ports := { s.ports with press := s.ports.press.raise .releasable } }

/-- A request, no physical report, that names a shot no row holds is answered UNKNOWN_SHOT; one with shot 0 or a cavity
above 7 is answered MALFORMED; neither changes any state (R2). -/
def Obligations.UnknownShotsChangeNothing : Prop :=
  ∀ (s : State) (shot cavity : Nat),
    let answers := fun (p : PortId) (code : ResultCode) (c : Instr) =>
      exec c s = .next { s with reply := some (p, ⟨code, []⟩) }
    let ofShot := fun (code : ResultCode) =>
      answers .press code (.abortCycle shot) ∧ answers .press code (.closePermit shot) ∧
        answers .press code (.releaseQuery shot)
    let ofCavity := fun (code : ResultCode) =>
      answers .charge code (.weigh shot cavity) ∧ answers .charge code (.admitCharge shot cavity) ∧
        answers .charge code (.admitOverride shot cavity) ∧ answers .extract code (.extractGrant shot cavity) ∧
        answers .extract code (.clear shot cavity)
    (s.NamesNone shot → ofShot .unknownShot ∧ (∀ p, answers p .unknownShot (.cycleQuery p shot)) ∧
      (cavity ≤ 7 → ofCavity .unknownShot)) ∧
    (shot = 0 → ofShot .malformed) ∧
    (shot = 0 ∨ 7 < cavity → ofCavity .malformed)

/-- CELL_CLEAR with fewer free ring slots than pending cavities is answered RING_FULL and changes nothing (R24). Accepted in
a lawful state it empties the cell (R25). Each pending cavity receives CLEARED_BY_CELL and, still CURING, is FORCED; then its
record is made due with outcome CLEARED: one for each, rows in age order and cavities in number order, all of them into the
ring behind what it held, their verdicts accounted to the run. Every row is FREE, every reservation released, the record queue
empty; the grant is withdrawn with GRANT_REVOKED; the run in flight ends CANCELLED, run and result of a freed row orphaned
(R85, R95); the uncleared count is 0, with TOOL_CLEAR where it was above 0; the idle timer starts. Of the ports, only notice
sets and attention lines change (R156), and the blocks that R25 does not name are as they were. -/
def Obligations.CellClearEmptiesTheCell : Prop :=
  ∀ s : State,
    let pending := fun i j : Fin 8 => ((s.row i).Pressed ∨ (s.row i).state = .opened) ∧ (s.cavity i j).charge = .charged ∧
      (s.cavity i j).record ≠ .recorded
    let n := ((List.finRange 8).map fun i => (List.finRange 8).countP fun j => decide (pending i j)).sum
    (64 - s.ring.length < n → exec .cellClear s = .next { s with reply := some (.records, ⟨.ringFull, []⟩) }) ∧
    (s.Lawful → n ≤ 64 - s.ring.length →
      ∃ (t u : State) (rows : List (Fin 8)), exec .cellClear s = .next t ∧
        (let offset := fun i : Fin 8 => match (s.row i).timeClosed with
          | some closedAt => min (elapsed s.clock closedAt / 1000) 65535
          | none => 0
        let written := rows.flatMap fun i =>
          ((List.finRange 8).filter fun j => decide (pending i j)).map fun j => u.freeze i j .cleared
        let good := fun k : Fin 8 => if (s.runs.get k).mode = .counted
          then written.countP fun r => decide (r.recipe = k.val ∧ r.verdict = .good) else 0
        let completes := ∃ k, 0 < good k ∧ good k = (s.runs.get k).remaining
        let raiseIf := fun (p : Prop) [Decidable p] (kind : NoticeKind) (q : Port) => if p then q.raise kind else q
        let result := s.weigh.result.map fun r =>
          { r with orphaned := r.orphaned || decide ((s.row r.row).state ≠ .free) }
        -- the age order, and the state in which the pending cavities are forced and noted
        rows.Pairwise (fun a b => (s.row a).rank.getD 0 < (s.row b).rank.getD 0) ∧
        (∀ i, i ∈ rows ↔ (s.row i).state ≠ .free) ∧
        u = { s with rows := u.rows } ∧ (∀ i, u.row i = { s.row i with cavities := (u.row i).cavities }) ∧
        (∀ i j, u.cavity i j =
          if pending i j then
            { (s.cavity i j).giveNote .clearedByCell (offset i) with
              cure := if (s.cavity i j).cure = .curing then .forced else (s.cavity i j).cure }
          else s.cavity i j) ∧
        written.length = n ∧ (∀ r ∈ written, r.outcome = .cleared ∧ r.outcomeTime = s.clock) ∧
        -- the table, the runs, the weigh unit
        (∀ i, t.row i = Row.freed) ∧
        (∀ k, t.runs.get k =
          { s.runs.get k with reserved := 0, remaining := (s.runs.get k).remaining - good k }) ∧
        (s.weigh.run = none → t.weigh = { s.weigh with result := result }) ∧
        (∀ run, s.weigh.run = some run → run.ticket = none →
          t.weigh = { s.weigh with run := none, tareOutcome := some (.cancelled, none), result := result }) ∧
        (∀ run w, s.weigh.run = some run → run.ticket = some w → t.weigh = { s.weigh with
          run := none
          result := some
            { shot := w.shot, cavity := w.cavity, row := w.row, gross := none, net := none, cls := .cancelled,
              attempt := w.attempt, samples := run.samples, time := s.clock, admitted := false,
              orphaned := w.orphaned || decide ((s.row w.row).state ≠ .free) } }) ∧
        t = { s with
          rows := t.rows
          runs := t.runs
          recordQueue := []
          ring := s.ring ++ written
          extraction := { s.extraction with grant := none, uncleared := 0 }
          weigh := t.weigh
          ports := {
            press := raiseIf (0 < s.extraction.uncleared) .toolClear (raiseIf completes .runComplete s.ports.press)
            charge := raiseIf (∃ run, s.weigh.run = some run ∧ run.ticket = none) .tareDone
              (raiseIf (∃ run, s.weigh.run = some run ∧ run.ticket ≠ none) .weighDone
                (raiseIf completes .runComplete s.ports.charge))
            extract := raiseIf (s.extraction.grant ≠ none) .grantRevoked s.ports.extract
            records := raiseIf (s.ring.length < 48 ∧ 48 ≤ s.ring.length + n) .ringHigh
              (raiseIf completes .runComplete s.ports.records) }
          regulator := { s.regulator with idleTimer := some s.clock }
          reply := some (.records, ⟨.done, []⟩) }))

/-! ### The platen -/

/-- HEAT_ON is refused by the first condition of R32 that holds, without any change; accepted, it brings the platen to
WARMING on the named slot unless it is WARMING or READY on it already, with what leaving READY brings, and starts the idle
timer afresh where every row is FREE (R32, R37). -/
def Obligations.HeatOnWarmsThePlaten : Prop :=
  ∀ (s : State) (recipe : Nat),
    let answers := fun (code : ResultCode) =>
      exec (.heatOn recipe) s = .next { s with reply := some (.press, ⟨code, []⟩) }
    (7 < recipe → answers .malformed) ∧
    ∀ k : Fin 8, k.val = recipe →
      ((∃ m, (s.row m).state ≠ .free ∧ (s.row m).recipe ≠ some k) → answers .recipeConflict) ∧
      ((∀ m, (s.row m).state ≠ .free → (s.row m).recipe = some k) →
        (s.store.write.map WriteInFlight.slot = some k → answers .busy) ∧
        (s.store.write.map WriteInFlight.slot ≠ some k →
          ((s.store.slots.get k).validity ≠ .valid → answers .recipeInvalid) ∧
          ((s.store.slots.get k).validity = .valid → ∃ t : State, exec (.heatOn recipe) s = .next t ∧
            (let stays := (s.regulator.platen = .warming ∨ s.regulator.platen = .ready) ∧
              s.regulator.platenRecipe = some k
            let leaves := s.regulator.platen = .ready ∧ s.regulator.platenRecipe ≠ some k
            t.regulator = { s.regulator with
              platen := if stays then s.regulator.platen else .warming
              platenRecipe := some k
              dwell := if stays then s.regulator.dwell else 0
              idleTimer := if ∀ m, (s.row m).state = .free then some s.clock else s.regulator.idleTimer } ∧
            (∀ m, t.row m = { s.row m with
              permit := (s.row m).permit && !decide (leaves ∧ (s.row m).state = .charged) }) ∧
            t = { s with
              regulator := t.regulator
              rows := t.rows
              ports := { s.ports with
                press := if leaves then s.ports.press.raise .platenNotReady else s.ports.press }
              reply := some (.press, ⟨.done, []⟩) }))))

/-- HEAT_OFF is BUSY while a row is in the press; otherwise the platen is OFF without a recipe, duties and integrals are 0,
owed slots, deferred flags and outputs are dropped at once, and leaving READY has its consequences; in OFF nothing changes
(R33, R37, R41, R59). -/
def Obligations.HeatOffTurnsEverythingOff : Prop :=
  ∀ s : State,
    ((∃ m, (s.row m).Pressed) → exec .heatOff s = .next { s with reply := some (.press, ⟨.busy, []⟩) }) ∧
    ((∀ m, ¬(s.row m).Pressed) →
      (s.regulator.platen = .off → exec .heatOff s = .next { s with reply := some (.press, ⟨.done, []⟩) }) ∧
      (s.regulator.platen ≠ .off → ∃ t : State, exec .heatOff s = .next t ∧
        (∀ m, t.row m = { s.row m with
          permit := (s.row m).permit && !decide (s.regulator.platen = .ready ∧ (s.row m).state = .charged) }) ∧
        (∀ z, t.regulator.zones.get z = { s.regulator.zones.get z with duty := 0, integral := 0 }) ∧
        (∀ z, t.firing.zones.get z = { s.firing.zones.get z with owed := 0, deferred := false, output := false }) ∧
        t = { s with
          rows := t.rows
          regulator := { s.regulator with
            zones := t.regulator.zones
            platen := .off
            platenRecipe := none
            dwell := 0 }
          firing := { s.firing with zones := t.firing.zones }
          ports := { s.ports with
            press := if s.regulator.platen = .ready then s.ports.press.raise .platenNotReady else s.ports.press }
          reply := some (.press, ⟨.done, []⟩) }))

/-- The expiry of the running idle timer stops it; a WARMING or READY platen enters STANDBY and keeps its recipe, with what
leaving READY brings; an OFF or STANDBY platen does not change (R37, R39). -/
def Obligations.IdleExpiryEntersStandby : Prop :=
  ∀ (s : State) (start : Clock), s.regulator.idleTimer = some start →
    ∃ t : State, exec .idleExpiry s = .next t ∧
      (let heating := s.regulator.platen = .warming ∨ s.regulator.platen = .ready
      (∀ m, t.row m = { s.row m with
        permit := (s.row m).permit && !decide (s.regulator.platen = .ready ∧ (s.row m).state = .charged) }) ∧
      t = { s with
        rows := t.rows
        regulator := { s.regulator with
          idleTimer := none
          platen := if heating then .standby else s.regulator.platen
          dwell := if heating then 0 else s.regulator.dwell }
        ports := { s.ports with
          press := if s.regulator.platen = .ready then s.ports.press.raise .platenNotReady else s.ports.press } })

/-! ### The firing frame -/

/-- At a frame start every zone's setpoint in force is set from the platen state and the platen recipe (R30), after the age
test has made STALE each OK zone whose age exceeds SAMPLE_STALE_MS (R29); readings, arrival times and the sensor states of
all other zones are as before. -/
def Obligations.FrameStartAgesAndSetsSetpoints : Prop :=
  ∀ (s : State) (k : Fin 8), (s.regulator.platen ≠ .off → s.regulator.platenRecipe = some k) →
    ∃ t : State, exec .frameStart s = .next t ∧ ∀ z,
      (t.regulator.zones.get z).reading = (s.regulator.zones.get z).reading ∧
      (t.regulator.zones.get z).arrival = (s.regulator.zones.get z).arrival ∧
      ((t.regulator.zones.get z).sensor =
        if (s.regulator.zones.get z).sensor = .ok ∧ ∃ at_, (s.regulator.zones.get z).arrival = some at_ ∧
          s.settings.sampleStaleMs < elapsed s.clock at_ then .stale else (s.regulator.zones.get z).sensor) ∧
      (t.regulator.zones.get z).setpoint =
        match s.regulator.platen with
        | .off => 0
        | .warming | .ready => (s.recipeAt k).setpoint.get z
        | .standby => if (s.recipeAt k).setpoint.get z = 0 then 0 else s.settings.setback

/-- The duty that a frame start computes for a zone (R43 to R47): 0 and the integral cleared at setpoint 0; the fallback
duty without a usable reading; 0 above the cutback level; otherwise the proportional and integral rule with its clamps, the
integral held where the duty is pinned at a clamp by the same error. `z` and `w` are the zone before and after it, the
setpoint and the sensor state of `z` being those of this frame start. -/
def Obligations.DutyFollowsTheRegulationRules : Prop :=
  ∀ (r : Recipe) (i : Fin 12) (z : Zone) (reading : Int),
    let w := z.computeDuty r i
    let e : Int := max (-2000) (min 2000 (z.setpoint - reading))
    let raw : Int := (r.kp * e).tdiv 100 + (z.integral + r.ki * e).tdiv 100
    w = { z with duty := w.duty, integral := w.integral } ∧
    (z.setpoint = 0 → w.duty = 0 ∧ w.integral = 0) ∧
    (z.setpoint ≠ 0 →
      (z.sensor ≠ .ok → w.duty = r.fallbackDuty.get i ∧ w.integral = z.integral) ∧
      (z.sensor = .ok → z.reading = some reading →
        (reading > z.setpoint + r.cutbackBand → w.duty = 0 ∧ w.integral = z.integral) ∧
        (reading ≤ z.setpoint + r.cutbackBand →
          ((w.duty : Int) = if raw < 0 then 0 else if raw > r.maxDuty.get i then (r.maxDuty.get i : Int) else raw) ∧
          (w.integral : Int) =
            if (raw > r.maxDuty.get i ∧ e > 0) ∨ (raw < 0 ∧ e < 0) then (z.integral : Int)
            else if z.integral + r.ki * e < 0 then 0
            else if z.integral + r.ki * e > 10000 then 10000
            else z.integral + r.ki * e)))

/-- FRAME_START (R29, R30, R42 to R49, R52 to R61), for the platen recipe in slot `k`. The age test and the new setpoint make
each zone record ready for the duty computation, which DutyFollowsTheRegulationRules states. The frame in progress is closed:
each zone's owed slots are its shortfall, added to the zone's total and to the cell's, both saturating. The new frame owes
each zone the duty just computed, in the window its STAGGER names; slot 0 takes the limit in force and grants as a slot start
does, no zone being deferred before it. The frame timer runs 2000 ms again, the slot timer 20 ms. The fault flag is set where
a zone becomes STALE, the warning flag where a zone fell short or the platen left READY. Of the rows, only close-permit flags
and notes change (ReadyTestMovesThePlaten and ShortfallReachesTheCuringCavities say which), and a platen that is OFF or in
STANDBY stays as it is. -/
def Obligations.FrameStartClosesAndOpensTheFrame : Prop :=
  ∀ (s : State) (k : Fin 8), (s.regulator.platen ≠ .off → s.regulator.platenRecipe = some k) →
    ∃ t : State, exec .frameStart s = .next t ∧
      (let r := s.recipeAt k
      let running := s.firing.slot ≠ none
      let stale := fun z : Fin 12 => (s.regulator.zones.get z).sensor = .ok ∧
        (s.regulator.zones.get z).arrival.any (fun at_ => s.settings.sampleStaleMs < elapsed s.clock at_) = true
      let aged := fun z : Fin 12 => ({ s.regulator.zones.get z with
        sensor := if stale z then .stale else (s.regulator.zones.get z).sensor
        setpoint := match s.regulator.platen with
          | .off => 0
          | .warming | .ready => r.setpoint.get z
          | .standby => if r.setpoint.get z = 0 then 0 else s.settings.setback } : Zone)
      let duty := fun z : Fin 12 => ((aged z).computeDuty r z).duty
      let limit := if s.pins.mainsHold then s.settings.holdLimit else s.settings.supplyLimit
      let candidate := fun z : Fin 12 => 0 < duty z ∧ (0 - (s.settings.stagger.get z : Int)) % 100 < duty z
      let before := fun z : Fin 12 => (List.finRange 12).countP fun w =>
        decide (candidate w ∧ s.settings.firingRank.get w < s.settings.firingRank.get z)
      let owes := fun (z : Fin 12) (owed : Nat) (deferred output : Bool) =>
        ({ frameDuty := duty z, windowStart := s.settings.stagger.get z, owed := owed, deferred := deferred,
           output := output } : FiringZone)
      let leaves := s.regulator.platen = .ready ∧ t.regulator.platen ≠ .ready
      let arrives := s.regulator.platen ≠ .ready ∧ t.regulator.platen = .ready
      (∀ z, t.regulator.zones.get z = { (aged z).computeDuty r z with
        shortfall :=
          if running then (s.firing.zones.get z).owed else (s.regulator.zones.get z).shortfall
        totalShortfall :=
          if running then min ((s.regulator.zones.get z).totalShortfall + (s.firing.zones.get z).owed) 65535
          else (s.regulator.zones.get z).totalShortfall }) ∧
      (∀ z, candidate z → before z < limit → t.firing.zones.get z = owes z (duty z - 1) false true) ∧
      (∀ z, candidate z → limit ≤ before z → t.firing.zones.get z = owes z (duty z) true false) ∧
      (∀ z, ¬candidate z → t.firing.zones.get z = owes z (duty z) false false) ∧
      (s.regulator.platen = .off ∨ s.regulator.platen = .standby →
        t.regulator.platen = s.regulator.platen ∧ t.regulator.dwell = s.regulator.dwell) ∧
      (∀ i, t.row i = { s.row i with
        permit := (s.row i).permit && !decide (leaves ∧ (s.row i).state = .charged)
        cavities := (t.row i).cavities }) ∧
      (∀ i j, t.cavity i j = { s.cavity i j with
        notes := (t.cavity i j).notes
        notesDropped := (t.cavity i j).notesDropped }) ∧
      (¬running ∨ (∀ z, (s.firing.zones.get z).owed = 0) → ∀ i j, t.cavity i j = s.cavity i j) ∧
      t = { s with
        rows := t.rows
        regulator := { s.regulator with
          zones := t.regulator.zones
          platen := t.regulator.platen
          dwell := t.regulator.dwell }
        firing := {
          zones := t.firing.zones
          slot := some 0
          limit := limit
          cellShortfall :=
            if running then
              min (s.firing.cellShortfall + ((List.finRange 12).map fun z => (s.firing.zones.get z).owed).sum) 65535
            else s.firing.cellShortfall
          frameTimer := 2000
          slotTimer := 20 }
        ports := { s.ports with
          press :=
            if leaves then s.ports.press.raise .platenNotReady
            else if arrives then s.ports.press.raise .platenReady
            else s.ports.press }
        streamer := { s.streamer with
          fault := s.streamer.fault || decide (∃ z, stale z)
          warning :=
            s.streamer.warning || decide ((running ∧ ∃ z, 0 < (s.firing.zones.get z).owed) ∨ leaves) } })

/-- The ready test of a frame start (R35 to R37), on the setpoints and sensor states of the same frame start: in WARMING a
pass raises the dwell count and, at READY_DWELL, makes the platen READY with PLATEN_READY, and a failure sets it to 0; in
READY a pass changes nothing, and a failure sends the platen to WARMING with the warning flag, PLATEN_NOT_READY, and every
CHARGED row's close-permit flag cleared. In OFF and STANDBY no test is made. -/
def Obligations.ReadyTestMovesThePlaten : Prop :=
  ∀ (s : State) (k : Fin 8), s.regulator.platenRecipe = some k →
    ∃ t : State, exec .frameStart s = .next t ∧
      (let passes := ∀ z, (s.recipeAt k).setpoint.get z ≠ 0 →
        (t.regulator.zones.get z).sensor = .ok ∧ ∃ reading, (t.regulator.zones.get z).reading = some reading ∧
          ((t.regulator.zones.get z).setpoint : Int) - s.settings.readyBand ≤ reading ∧
          reading ≤ (t.regulator.zones.get z).setpoint + s.settings.readyBand
      (∀ m, (t.row m).permit = ((s.row m).permit &&
        !decide (s.regulator.platen = .ready ∧ t.regulator.platen ≠ .ready ∧ (s.row m).state = .charged))) ∧
      match s.regulator.platen with
      | .warming =>
        (¬passes → t.regulator.platen = .warming ∧ t.regulator.dwell = 0 ∧ t.ports = s.ports) ∧
        (passes → t.regulator.dwell = s.regulator.dwell + 1 ∧
          (s.regulator.dwell + 1 < s.settings.readyDwell → t.regulator.platen = .warming ∧ t.ports = s.ports) ∧
          (s.settings.readyDwell ≤ s.regulator.dwell + 1 → t.regulator.platen = .ready ∧
            t.ports = { s.ports with press := s.ports.press.raise .platenReady }))
      | .ready =>
        (passes → t.regulator.platen = .ready ∧ t.regulator.dwell = s.regulator.dwell ∧ t.ports = s.ports) ∧
        (¬passes → t.regulator.platen = .warming ∧ t.regulator.dwell = 0 ∧ t.streamer.warning = true ∧
          t.ports = { s.ports with press := s.ports.press.raise .platenNotReady })
      | .off | .standby =>
        t.regulator.platen = s.regulator.platen ∧ t.regulator.dwell = s.regulator.dwell ∧ t.ports = s.ports)

/-- A note given to a cavity (R119) counts in its entry up to 255, or is appended to a list of fewer than 8 kinds with count
1 and its offset, or counts as dropped up to 255; once the record is due it is discarded. The flags and notes of a frame start
(R29, R61): the fault flag is set where the age test makes a zone STALE; the warning flag is set where a zone fell short; a
cavity that is CURING over a zone that fell short receives one SUPPLY_SHORTFALL, and no other cavity changes, neither one that
is not CURING, whatever its row, nor one whose zones did not fall short. -/
def Obligations.ShortfallReachesTheCuringCavities : Prop :=
  (∀ (c : Cavity) (kind : NoteKind) (offset : Nat),
    (c.record ≠ .notDue → c.giveNote kind offset = c) ∧
    (c.record = .notDue →
      ((∃ note ∈ c.notes, note.kind = kind) → c.giveNote kind offset = { c with
        notes := c.notes.map fun note =>
          { note with count := if note.kind = kind then min (note.count + 1) 255 else note.count } }) ∧
      ((∀ note ∈ c.notes, note.kind ≠ kind) →
        (c.notes.length < 8 →
          c.giveNote kind offset = { c with notes := c.notes ++ [{ kind := kind, count := 1, offset := offset }] }) ∧
        (8 ≤ c.notes.length →
          c.giveNote kind offset = { c with notesDropped := min (c.notesDropped + 1) 255 })))) ∧
  ∀ s : State, s.firing.slot ≠ none → ∃ t : State, exec .frameStart s = .next t ∧
    (let short := fun zone : Nat => ∃ z : Fin 12, z.val = zone ∧ 0 < (s.firing.zones.get z).owed
    ((∃ z, 0 < (s.firing.zones.get z).owed) → t.streamer.warning = true) ∧
    ((∃ z at_, (s.regulator.zones.get z).sensor = .ok ∧ (s.regulator.zones.get z).arrival = some at_ ∧
      s.settings.sampleStaleMs < elapsed s.clock at_) → t.streamer.fault = true) ∧
    ((∀ z at_, (s.regulator.zones.get z).sensor = .ok → (s.regulator.zones.get z).arrival = some at_ →
      elapsed s.clock at_ ≤ s.settings.sampleStaleMs) → t.streamer.fault = s.streamer.fault) ∧
    (∀ i j, (s.cavity i j).cure ≠ .curing → t.cavity i j = s.cavity i j) ∧
    ∀ i k, (s.row i).recipe = some k →
      (∀ j, ¬short ((s.recipeAt k).topZone.get j) → ¬short ((s.recipeAt k).bottomZone.get j) →
        t.cavity i j = s.cavity i j) ∧
      ∀ closedAt, (s.row i).timeClosed = some closedAt → ∀ j, (s.cavity i j).cure = .curing →
        short ((s.recipeAt k).topZone.get j) ∨ short ((s.recipeAt k).bottomZone.get j) →
        t.cavity i j =
          (s.cavity i j).giveNote .supplyShortfall (min (elapsed s.clock closedAt / 1000) 65535))

/-- SLOT_START takes the limit in force and grants the slot (R54 to R58): a zone is a candidate where it is owed slots and
lies in its window or is deferred; a candidate is granted exactly where fewer candidates than the limit in force go before
it by FIRING_RANK; a granted zone's owed count falls by 1 and its output is on; a candidate not granted is deferred; every
other output is off. Nothing else changes. -/
def Obligations.SlotStartGrantsByRank : Prop :=
  ∀ (s : State) (k : Nat), s.firing.slot = some k → k < 99 →
    ∃ t : State, exec .slotStart s = .next t ∧
      (let limit := if s.pins.mainsHold then s.settings.holdLimit else s.settings.supplyLimit
      let candidate := fun z => 0 < (s.firing.zones.get z).owed ∧
        ((((k + 1 : Nat) : Int) - (s.firing.zones.get z).windowStart) % 100 < (s.firing.zones.get z).frameDuty ∨
          (s.firing.zones.get z).deferred = true)
      let before := fun z => (List.finRange 12).countP fun w =>
        decide (candidate w ∧ s.settings.firingRank.get w < s.settings.firingRank.get z)
      (∀ z, candidate z → before z < limit → t.firing.zones.get z =
        { s.firing.zones.get z with owed := (s.firing.zones.get z).owed - 1, output := true }) ∧
      (∀ z, candidate z → limit ≤ before z → t.firing.zones.get z =
        { s.firing.zones.get z with deferred := true, output := false }) ∧
      (∀ z, ¬candidate z → t.firing.zones.get z = { s.firing.zones.get z with output := false }) ∧
      t = { s with firing := { s.firing with
        zones := t.firing.zones
        slot := some (k + 1)
        limit := limit
        slotTimer := 20 } })

/-! ### The cure -/

/-- The rate factor of the cure table (R71, R72): 0 below BASE, RATE[15] from BASE + 15 × WIDTH upward, and between two
entries a value between them. -/
def Obligations.RateFactorLiesBetweenItsEntries : Prop :=
  ∀ (r : Recipe) (theta : Int), 0 < r.width →
    (theta < r.base → rateFactor r theta = 0) ∧
    (r.base + 15 * r.width ≤ theta → rateFactor r theta = r.rate.get 15) ∧
    ∀ (i : Nat) (h : i < 15), r.base + i * r.width ≤ theta → theta < r.base + (i + 1) * r.width →
      let a := r.rate.get ⟨i, by omega⟩
      let b := r.rate.get ⟨i + 1, by omega⟩
      min a b ≤ rateFactor r theta ∧ rateFactor r theta ≤ max a b ∧
      (rateFactor r theta : Int) =
        a + (((b : Int) - a) * (theta - r.base - i * r.width)).tdiv r.width

/-- CURE_STEP (R9, R66 to R79): the elapsed cure seconds rise to n; a cavity that is neither CURING nor REACHED is not
touched; a stepped cavity takes the mean of its two zones, or the one that is usable with the note that the other is not, and
its OFFSET, adds the rate factor, is tested against its target while CURING, and keeps peak, scorch count and trace, a trace
point beyond the 32nd being marked and noted once; with neither zone usable it counts and notes a blind step, and is tested
against its unchanged accumulator. The release condition is evaluated. Nothing else of a cavity, the row or the state
changes, but for the press port at a release. -/
def Obligations.CureStepIntegratesTheRow : Prop :=
  ∀ (s : State) (i k : Fin 8) (ms : Nat), (s.row i).stepTimer = some ms → (s.row i).recipe = some k →
    ∃ t : State, exec (.cureStep i) s = .next t ∧
      (let r := s.recipeAt k
      let n := min ((s.row i).elapsed + 1) 65535
      let usable := fun (zone : Nat) (reading : Int) => ∃ z : Fin 12, z.val = zone ∧
        (s.regulator.zones.get z).sensor = .ok ∧ (s.regulator.zones.get z).reading = some reading ∧
        ∀ at_, (s.regulator.zones.get z).arrival = some at_ → elapsed s.clock at_ ≤ s.settings.sampleStaleMs
      let blind := fun zone => ∀ reading, ¬usable zone reading
      let stepped := fun (c : Cavity) => c.cure = .curing ∨ c.cure = .reached
      let tested := fun (c : Cavity) =>
        let reached := c.cure = .curing ∧ c.targetAdj.getD 0 * 256 ≤ c.acc
        { c with
          cure := if reached then .reached else c.cure
          reached := if reached then some n else c.reached }
      let heated := fun (c : Cavity) (theta : Int) =>
        let due := n % r.traceInterval = 0
        let full := due ∧ 32 ≤ c.trace.length
        let noted := if full ∧ c.traceFull = false then c.giveNote .traceTruncated n else c
        tested { noted with
          acc := min (c.acc + rateFactor r theta) 4294967295
          peak := some (match c.peak with
            | some p => max p theta
            | none => theta)
          scorch := if theta > r.scorchTemp then min (c.scorch + 1) 65535 else c.scorch
          trace := if due ∧ c.trace.length < 32 then c.trace ++ [theta] else c.trace
          traceFull := c.traceFull || decide full }
      (∀ j, ¬stepped (s.cavity i j) → t.cavity i j = s.cavity i j) ∧
      (∀ j a b, stepped (s.cavity i j) → usable (r.topZone.get j) a → usable (r.bottomZone.get j) b →
        t.cavity i j = heated (s.cavity i j) ((a + b).tdiv 2 + r.offset.get j)) ∧
      (∀ j a, stepped (s.cavity i j) → usable (r.topZone.get j) a → blind (r.bottomZone.get j) →
        t.cavity i j = heated ((s.cavity i j).giveNote .zoneFaultBottom n) (a + r.offset.get j)) ∧
      (∀ j b, stepped (s.cavity i j) → blind (r.topZone.get j) → usable (r.bottomZone.get j) b →
        t.cavity i j = heated ((s.cavity i j).giveNote .zoneFaultTop n) (b + r.offset.get j)) ∧
      (∀ j, stepped (s.cavity i j) → blind (r.topZone.get j) → blind (r.bottomZone.get j) →
        t.cavity i j = tested { (s.cavity i j).giveNote .blind n with
          blind := min ((s.cavity i j).blind + 1) 65535 }) ∧
      (let released := (s.row i).state = .curing ∧ ∀ j, (s.cavity i j).charge = .charged →
        (t.cavity i j).cure = .reached ∨ (t.cavity i j).cure = .timedOut
      t.row i = { s.row i with
        state := if released then .releasable else (s.row i).state
        rowTimer := if released then none else (s.row i).rowTimer
        stepTimer := some 1000
        elapsed := n
        cavities := (t.row i).cavities } ∧
      t = { s with
        rows := s.rows.set i (t.row i)
        ports := { s.ports with
          press := if released then s.ports.press.raise .releasable else s.ports.press } }))

/-! ### The weigh unit -/

/-- TARE starts a tare run with the parameters of the settings record, and is BUSY while a run is in flight (R89); WEIGH is
refused by the first condition of R91 that holds, without any change, and otherwise counts the attempt and starts a weigh
run with the cavity's nominal, tolerances and attempt number (R87, R92). -/
def Obligations.TareAndWeighStartTheRun : Prop :=
  ∀ (s : State),
    (s.weigh.run ≠ none → exec .tare s = .next { s with reply := some (.charge, ⟨.busy, []⟩) }) ∧
    (s.weigh.run = none → exec .tare s = .next
      { s with
        weigh := { s.weigh with
          run := some
            { ticket := none, band := s.settings.tareBand, settleCount := s.settings.tareCount,
              timeout := s.settings.tareTimeout, start := s.clock, reference := none, count := 0, sum := 0,
              samples := 0 } }
        reply := some (.charge, ⟨.started, []⟩) }) ∧
    ∀ (shot : Nat) (i j k : Fin 8), s.Names shot i → (s.row i).recipe = some k →
      let answers := fun (code : ResultCode) =>
        exec (.weigh shot j.val) s = .next { s with reply := some (.charge, ⟨code, []⟩) }
      let c := s.cavity i j
      let r := s.recipeAt k
      (((s.row i).state ≠ .open_ ∧ (s.row i).state ≠ .charged) ∨ c.charge = .empty → answers .wrongState) ∧
      ((s.row i).state = .open_ ∨ (s.row i).state = .charged →
        (c.charge = .charged → answers .alreadyCharged) ∧
        (c.charge = .awaitCharge →
          (c.attempts = r.maxAttempts → answers .attemptsExhausted) ∧
          (c.attempts ≠ r.maxAttempts →
            (s.weigh.tare = none → answers .noTare) ∧
            (s.weigh.tare ≠ none →
              (s.weigh.run ≠ none → answers .busy) ∧
              (s.weigh.run = none → exec (.weigh shot j.val) s = .next
                { s with
                  rows := s.rows.set i { s.row i with
                    cavities := (s.row i).cavities.set j { c with attempts := c.attempts + 1 } }
                  weigh := { s.weigh with
                    run := some
                      { ticket := some
                          { shot := shot, cavity := j, row := i, nominal := r.nominal.get j, tolLow := r.tolLow.get j,
                            tolHigh := r.tolHigh.get j, attempt := c.attempts + 1, orphaned := false }
                        band := r.settleBand
                        settleCount := r.settleCount
                        timeout := r.settleTimeout
                        start := s.clock
                        reference := none
                        count := 0
                        sum := 0
                        samples := 0 } }
                  reply := some (.charge, ⟨.started, []⟩) })))))

/-- A sample on a zone channel writes the zone record: the arrival time always, the sensor state by the value's class, the
reading only where the value is valid, and the fault flag where an OK zone becomes OPEN or RANGE; one on the pan channel is
the latest pan reading; any other is counted as a sample error. Without a settle run nothing else changes (R26, R27, R86). That
a channel above 15, which no sample carries, is counted too is the model's choice (log 13). -/
def Obligations.SamplesAreRoutedAndClassified : Prop :=
  ∀ (s : State) (value : BitVec 16),
    (∀ z : Fin 12,
      let old := s.regulator.zones.get z
      let valid := value ≠ 0x7FFF#16 ∧ -500 ≤ value.toInt ∧ value.toInt ≤ 4500
      exec (.sampleArrival z.val value) s = .next
        { s with
          regulator := { s.regulator with zones := s.regulator.zones.set z { old with
            reading := if valid then some value.toInt else old.reading
            arrival := some s.clock
            sensor := if valid then .ok else if value = 0x7FFF#16 then .open_ else .range } }
          streamer := { s.streamer with fault := s.streamer.fault || decide (old.sensor = .ok ∧ ¬valid) } }) ∧
    (s.weigh.run = none →
      exec (.sampleArrival 12 value) s = .next { s with weigh := { s.weigh with pan := some value.toNat } }) ∧
    ∀ channel, 12 < channel →
      exec (.sampleArrival channel value) s = .next
        { s with regulator := { s.regulator with sampleErrors := min (s.regulator.sampleErrors + 1) 65535 } }

/-- A pan sample of 0..60000 within a settle run counts as a sample of the run; it joins the readings within the band of the
reference, or becomes the reference with count 1; once the count reaches the settle count the run ends settled at the mean,
and otherwise it goes on. A sample above 60000 ends the run with an overload (R86 to R88). What a run's end does is stated
apart. -/
def Obligations.PanSamplesSettleTheRun : Prop :=
  ∀ (s : State) (run : SettleRun) (value : BitVec 16), s.weigh.run = some run →
    let v := value.toNat
    let with_ := fun (r : SettleRun) => ({ s with weigh := { s.weigh with run := some r, pan := some v } } : State)
    let samples := min (run.samples + 1) 65535
    let near := ∃ ref, run.reference = some ref ∧ ref ≤ v + run.band ∧ v ≤ ref + run.band
    let next : SettleRun :=
      { run with
        samples := samples
        reference := if near then run.reference else some v
        count := if near then run.count + 1 else 1
        sum := if near then run.sum + v else v }
    (60000 < v → exec (.sampleArrival 12 value) s = .next ((with_ { run with samples := samples }).endRun .overload)) ∧
    (v ≤ 60000 →
      (next.count < run.settleCount → exec (.sampleArrival 12 value) s = .next (with_ next)) ∧
      (run.settleCount ≤ next.count →
        exec (.sampleArrival 12 value) s = .next ((with_ next).endRun (.settled (next.sum / next.count)))))

/-- The end of a run in flight (R88, R90, R93): a tare run writes the tare outcome, and the tare only where the value does
not exceed TARE_LIMIT, with TARE_DONE; a weigh run writes a new result record, classed from its net weight where it settled,
with WEIGH_DONE. The timeout ends a run UNSTABLE; WEIGH_CANCEL ends it CANCELLED, and without a run is WRONG_STATE (R94). -/
def Obligations.TheRunEndLeavesItsResult : Prop :=
  (∀ (s : State) (run : SettleRun) (e : RunEnd), s.weigh.run = some run →
    let gross : Option Nat := match e with
      | .settled v => some v
      | _ => none
    (run.ticket = none → ∃ outcome : TareOutcome,
      (match e with
        | .settled v => (v ≤ s.settings.tareLimit → outcome = .tared) ∧ (s.settings.tareLimit < v → outcome = .tareReject)
        | .overload => outcome = .overload
        | .unstable => outcome = .unstable
        | .cancelled => outcome = .cancelled) ∧
      s.endRun e = { s with
        weigh := { s.weigh with
          run := none
          tare := if outcome = .tared then gross else s.weigh.tare
          tareOutcome := some (outcome, gross) }
        ports := { s.ports with charge := s.ports.charge.raise .tareDone } }) ∧
    ∀ t tare, run.ticket = some t → s.weigh.tare = some tare → ∃ cls : WeighClass,
      (match e with
        | .settled v =>
          (v - tare < s.settings.emptyThreshold → cls = .emptyPan) ∧
          (s.settings.emptyThreshold ≤ v - tare →
            (v - tare + t.tolLow < t.nominal → cls = .light) ∧
            (t.nominal + t.tolHigh < v - tare → cls = .heavy) ∧
            (t.nominal ≤ v - tare + t.tolLow → v - tare ≤ t.nominal + t.tolHigh → cls = .accept))
        | .overload => cls = .overload
        | .unstable => cls = .unstable
        | .cancelled => cls = .cancelled) ∧
      s.endRun e = { s with
        weigh := { s.weigh with
          run := none
          result := some
            { shot := t.shot, cavity := t.cavity, row := t.row, gross := gross, net := gross.map fun v => v - tare,
              cls := cls, attempt := t.attempt, samples := run.samples, time := s.clock, admitted := false,
              orphaned := t.orphaned } }
        ports := { s.ports with charge := s.ports.charge.raise .weighDone } }) ∧
  ∀ s : State,
    exec .settleRunTimeout s = .next (s.endRun .unstable) ∧
    (s.weigh.run ≠ none →
      exec .weighCancel s = .next { s.endRun .cancelled with reply := some (.charge, ⟨.done, []⟩) }) ∧
    (s.weigh.run = none → exec .weighCancel s = .next { s with reply := some (.charge, ⟨.wrongState, []⟩) })

/-- ADMIT and ADMIT_OVERRIDE are refused by the first condition of R97 and R98 that holds, without any change: where the shot
names a row, an absent last weigh result is answered NOT_ACCEPTED before the row's state is looked at. Accepted, the
cavity becomes CHARGED with its charge record and TARGET_ADJ, the result is admitted, an override notes OVERRIDE_CHARGE, and
the row is CHARGED where no cavity awaits its charge any more (R81, R99, R100). -/
def Obligations.AdmissionChargesTheCavity : Prop :=
  (∀ (s : State) (shot : Nat) (i j : Fin 8), s.Names shot i → s.weigh.result = none →
    exec (.admitCharge shot j.val) s = .next { s with reply := some (.charge, ⟨.notAccepted, []⟩) } ∧
    exec (.admitOverride shot j.val) s = .next { s with reply := some (.charge, ⟨.notAccepted, []⟩) }) ∧
  ∀ (s : State) (shot : Nat) (i j k : Fin 8) (res : WeighResult), s.Names shot i → (s.row i).recipe = some k →
    s.weigh.result = some res →
    let answers := fun (code : ResultCode) (c : Instr) =>
      exec c s = .next { s with reply := some (.charge, ⟨code, []⟩) }
    let both := fun (code : ResultCode) =>
      answers code (.admitCharge shot j.val) ∧ answers code (.admitOverride shot j.val)
    let r := s.recipeAt k
    (res.shot ≠ shot ∨ res.cavity ≠ j → both .notAccepted) ∧
    (res.shot = shot → res.cavity = j →
      (res.orphaned = true → both .unknownShot) ∧
      (res.orphaned = false →
        ((s.row i).state ≠ .open_ ∨ (s.cavity i j).charge ≠ .awaitCharge → both .wrongState) ∧
        ((s.row i).state = .open_ → (s.cavity i j).charge = .awaitCharge →
          (res.admitted = true → both .notAccepted) ∧
          (res.admitted = false →
            let accepted := fun (override : Bool) (c : Instr) => ∀ net, res.net = some net →
              ∃ (t : State) (target : Nat),
                (target : Int) = max (r.targetMin : Int) (min r.targetMax
                  (r.cureTarget + (((net : Int) - r.nominal.get j) * r.cureAdjust).tdiv 1000)) ∧
                exec c s = .next t ∧
                (let charged : Cavity := { s.cavity i j with
                  charge := .charged
                  chargeRec := some
                    { net := net, cls := res.cls, override := override, attempts := res.attempt, admitTime := s.clock }
                  targetAdj := some target }
                let last := ∀ m, m ≠ j → (s.cavity i m).charge ≠ .awaitCharge
                t = { s with
                  rows := s.rows.set i { s.row i with
                    state := if last then .charged else .open_
                    cavities := (s.row i).cavities.set j
                      (if override then charged.giveNote .overrideCharge 0 else charged) }
                  weigh := { s.weigh with result := some { res with admitted := true } }
                  reply := some (.charge, ⟨.done, [.word target]⟩) })
            (res.cls = .accept →
              accepted false (.admitCharge shot j.val) ∧ accepted false (.admitOverride shot j.val)) ∧
            (res.cls = .light ∨ res.cls = .heavy →
              answers .notAccepted (.admitCharge shot j.val) ∧
              (r.overrideAllowed = 1 → accepted true (.admitOverride shot j.val)) ∧
              (r.overrideAllowed ≠ 1 → answers .overrideForbidden (.admitOverride shot j.val))) ∧
            (res.cls ≠ .accept → res.cls ≠ .light → res.cls ≠ .heavy → both .notAccepted)))))

/-! ### Extraction -/

/-- EXTRACT_GRANT is denied with the first reason of R105 that holds, without any change; granted, the grant takes the row,
the shot and the cavity, and the cavity is GRANTED (R105, R106). -/
def Obligations.ExtractGrantFollowsItsChecks : Prop :=
  ∀ (s : State) (shot : Nat) (i j : Fin 8), s.Names shot i →
    let denied := fun (why : DenyReason) =>
      exec (.extractGrant shot j.val) s = .next { s with reply := some (.extract, ⟨.denied, [.byte why.code]⟩) }
    let combination := s.extraction.inputs.combination
    let permitted := combination ≠ 0 ∧ s.settings.interlockPattern.getLsbD combination = true
    ((s.row i).state ≠ .opened ∨ (s.cavity i j).tool ≠ .inTool → denied .wrongState) ∧
    ((s.row i).state = .opened → (s.cavity i j).tool = .inTool →
      (s.extraction.grant ≠ none → denied .grantHeld) ∧
      (s.extraction.grant = none → ¬permitted → denied .interlock) ∧
      (s.extraction.grant = none → permitted →
        exec (.extractGrant shot j.val) s = .next
          { s with
            rows := s.rows.set i { s.row i with
              cavities := (s.row i).cavities.set j { s.cavity i j with tool := .granted } }
            extraction := { s.extraction with grant := some { row := i, shot := shot, cavity := j } }
            reply := some (.extract, ⟨.granted, []⟩) }))

/-- The mains-hold input and the ready line are levels that later events read, and their change moves nothing else (R54,
R133). A changed interlock input takes its level; a combination that is no longer permitted revokes the outstanding grant,
with the note INTERLOCK_BREAK and GRANT_REVOKED, and where the demould window has expired the cavity is abandoned in the same
event (R103, R104, R107, R108). A level the input has already is no change (log 15). -/
def Obligations.InputLevelsAreTaken : Prop :=
  ∀ (s : State) (level : Bool),
    exec (.mainsHoldChange level) s = .next { s with pins := { s.pins with mainsHold := level } } ∧
    exec (.readyLineChange level) s = .next { s with pins := { s.pins with readyLine := level } } ∧
    ∀ input : InterlockInput,
      (s.extraction.inputs.level input = level → exec (.interlockChange input level) s = .next s) ∧
      (s.extraction.inputs.level input ≠ level → ∃ inputs : Interlocks,
        inputs.level input = level ∧ (∀ other, other ≠ input → inputs.level other = s.extraction.inputs.level other) ∧
        (let weight := fun (x : InterlockInput) (n : Nat) => if inputs.level x then n else 0
        let combination :=
          weight .pressAtTop 1 + weight .ejectForward 2 + weight .curtainClear 4 + weight .robotZoneFree 8
        let permitted := combination ≠ 0 ∧ s.settings.interlockPattern.getLsbD combination = true
        (s.extraction.grant = none ∨ permitted → exec (.interlockChange input level) s = .next
          { s with extraction := { s.extraction with inputs := inputs } }) ∧
        ∀ g closedAt, s.extraction.grant = some g → ¬permitted → (s.row g.row).timeClosed = some closedAt →
          let noted := (s.cavity g.row g.cavity).giveNote .interlockBreak (min (elapsed s.clock closedAt / 1000) 65535)
          let revoked := fun (status : ToolStatus) => ({ s with
            rows := s.rows.set g.row { s.row g.row with
              cavities := (s.row g.row).cavities.set g.cavity { noted with tool := status } }
            extraction := { s.extraction with grant := none, inputs := inputs }
            ports := { s.ports with extract := s.ports.extract.raise .grantRevoked } } : State)
          let expired := (s.row g.row).state = .opened ∧ (s.row g.row).rowTimer = none
          exec (.interlockChange input level) s = .next
            (if expired then ((revoked .abandoned).recordDue g.row g.cavity .abandoned).raise .extract .demouldExpired
              else revoked .inTool)))

/-- A record that becomes due (R121 to R126, R130): it is frozen with the cavity's and the row's fields, given the verdict
that stands first among the conditions that hold, accounted to the run (with RUN_COMPLETE where remaining falls to 0), and
placed in the ring (with RING_HIGH at 48) or, with the ring full, in the record queue. When the oldest record has been sent
(R129) it leaves the ring; the frozen record of the cavity at the queue's head, if there is one, enters it as the newest, the
cavity is RECORDED, and its row's freeing condition is evaluated. Nothing else changes. -/
def Obligations.RecordsEnterAndLeaveTheRing : Prop :=
  (∀ (s : State) (i j k : Fin 8) (outcome : ToolOutcome) (shot target : Nat) (closedAt : Clock) (charge : ChargeRecord),
    (s.row i).recipe = some k → (s.row i).shot = some shot → (s.row i).timeClosed = some closedAt →
    (s.cavity i j).chargeRec = some charge → (s.cavity i j).targetAdj = some target →
    let c := s.cavity i j
    let r := s.recipeAt k
    let e := s.runs.get k
    let verdict : Verdict :=
      if c.cure = .forced then .forced
      else if outcome = .stuck then .stuck
      else if outcome = .abandoned then .abandoned
      else if r.scorchAllowance < c.scorch then .scorched
      else if c.cure = .timedOut then .undercure
      else if r.blindAllowance < c.blind then .suspect
      else if charge.override = true then .outOfTolerance
      else .good
    let record : PartRecord :=
      { shot := shot, cavity := j.val, recipe := k.val, verdict := verdict, net := charge.net,
        attempts := charge.attempts, override := charge.override, targetAdj := target, reached := c.reached,
        finalCure := c.acc / 256, peak := c.peak, scorch := c.scorch, blind := c.blind, timeClosed := closedAt,
        timePressOpened := (s.row i).timePressOpened, outcomeTime := s.clock, outcome := outcome, notes := c.notes,
        notesDropped := c.notesDropped, trace := c.trace, traceInterval := r.traceInterval }
    let room := s.ring.length < 64
    let consumed := e.mode = .counted ∧ verdict = .good
    let completes := consumed ∧ e.remaining = 1
    let told := fun (q : Port) => if completes then q.raise .runComplete else q
    s.freeze i j outcome = record ∧
    s.recordDue i j outcome = { s with
      rows := s.rows.set i { s.row i with
        cavities := (s.row i).cavities.set j { c with
          verdict := some verdict
          record := if room then .recorded else .queued
          frozen := if room then c.frozen else some record } }
      runs := s.runs.set k { e with
        reserved := e.reserved - 1
        remaining := if consumed then e.remaining - 1 else e.remaining }
      ring := if room then s.ring ++ [record] else s.ring
      recordQueue := if room then s.recordQueue else s.recordQueue ++ [(i, j)]
      ports := { s.ports with
        press := told s.ports.press
        charge := told s.ports.charge
        records :=
          if s.ring.length = 47 then (told s.ports.records).raise .ringHigh else told s.ports.records } }) ∧
  ∀ s : State,
    (s.recordQueue = [] → s.recordSent = { s with ring := s.ring.tail }) ∧
    ∀ i j rest frozen, s.recordQueue = (i, j) :: rest → (s.cavity i j).frozen = some frozen →
      let u : State := { s with
        ring := s.ring.tail ++ [frozen]
        recordQueue := rest
        rows := s.rows.set i { s.row i with
          cavities := (s.row i).cavities.set j { s.cavity i j with record := .recorded, frozen := none } }
        ports := { s.ports with
          records := if s.ring.tail.length = 47 then s.ports.records.raise .ringHigh else s.ports.records } }
      let done := (u.row i).state = .opened ∧ ∀ m, ¬(u.cavity i m).InTool ∧
        ((u.cavity i m).record = .recorded ∨ (u.cavity i m).record = .notDue ∧ (u.cavity i m).charge ≠ .charged)
      s.recordSent = if done then u.freeRow i else u

/-- EXTRACT_DONE on a row in OPENED (R109 to R111): a cavity IN_TOOL or GRANTED takes the outcome, its record becomes due, a
removal lowers the uncleared count (with TOOL_CLEAR at 0), and the freeing condition is evaluated, with a NO_GRANT note
where it held no grant; an ABANDONED cavity is answered LATE and a removal clears it; any other is answered WRONG_STATE.
CLEAR clears a STUCK or ABANDONED cavity of such a row; on a cavity of any other tool status it is WRONG_STATE and changes
nothing, whatever its row's state, and so it is on every cavity of a row that is not in OPENED, since STUCK and ABANDONED
cavities exist in OPENED rows only (R112; the law CavityLaw). -/
def Obligations.ToolReportsSettleTheCavity : Prop :=
  (∀ (s : State) (shot : Nat) (i j : Fin 8), s.Names shot i →
    ((s.cavity i j).tool ≠ .stuck ∧ (s.cavity i j).tool ≠ .abandoned) ∨
      (s.CavityLaw ∧ (s.row i).state ≠ .opened) →
    exec (.clear shot j.val) s = .next { s with reply := some (.extract, ⟨.wrongState, []⟩) }) ∧
  ∀ (s : State) (shot : Nat) (i j : Fin 8) (outcome : ToolOutcome) (code : Nat) (closedAt : Clock), s.Names shot i →
    (s.row i).state = .opened → (s.row i).timeClosed = some closedAt →
    (outcome = .removed ∧ code = 1) ∨ (outcome = .stuck ∧ code = 2) →
    let c := s.cavity i j
    let status : ToolStatus := if outcome = .removed then .removed else .stuck
    let withCavity := fun (x : Cavity) =>
      ({ s with rows := s.rows.set i { s.row i with cavities := (s.row i).cavities.set j x } } : State)
    let lowered := fun (u : State) => ({ u with
      extraction := { u.extraction with uncleared := u.extraction.uncleared - 1 }
      ports := { u.ports with
        press := if u.extraction.uncleared = 1 then u.ports.press.raise .toolClear else u.ports.press } } : State)
    let finished := fun (u : State) (result : ResultCode) =>
      let done := (u.row i).state = .opened ∧ ∀ m, ¬(u.cavity i m).InTool ∧
        ((u.cavity i m).record = .recorded ∨ (u.cavity i m).record = .notDue ∧ (u.cavity i m).charge ≠ .charged)
      ({ (if done then u.freeRow i else u) with reply := some (.extract, ⟨result, []⟩) } : State)
    let removeIf := fun (u : State) => if outcome = .removed then lowered u else u
    let report : Instr := .extractDone shot j.val code
    (c.tool = .inTool →
      exec report s = .next (finished (removeIf ((withCavity
        { c.giveNote .noGrant (min (elapsed s.clock closedAt / 1000) 65535) with tool := status }).recordDue i j outcome))
        .done)) ∧
    (c.tool = .granted →
      exec report s = .next (finished (removeIf (({ withCavity { c with tool := status } with
        extraction := { s.extraction with grant := none } } : State).recordDue i j outcome)) .done)) ∧
    (c.tool = .abandoned →
      exec report s = .next
        (if outcome = .removed then finished (lowered (withCavity { c with tool := .cleared })) .late
          else { s with reply := some (.extract, ⟨.late, []⟩) })) ∧
    (c.tool = .notInTool ∨ c.tool = .removed ∨ c.tool = .stuck ∨ c.tool = .cleared →
      exec report s = .next { s with reply := some (.extract, ⟨.wrongState, []⟩) }) ∧
    (c.tool = .stuck ∨ c.tool = .abandoned →
      exec (.clear shot j.val) s = .next (finished (lowered (withCavity { c with tool := .cleared })) .done))

/-- The expiry of the demould window (R7, R113): the row timer stops; every IN_TOOL cavity of the row is ABANDONED and its
record due, in cavity number order, with that outcome and the time now: the first of them, as many as the ring has free slots,
are RECORDED and enter the ring, the rest are QUEUED with their frozen records and join the record queue; with one abandoned
at least, DEMOULD_EXPIRED is raised. Nothing else of such a cavity, no other cavity, no other row and no uncleared count
changes. -/
def Obligations.DemouldExpiryAbandonsTheRow : Prop :=
  ∀ (s : State) (i k : Fin 8) (ms : Nat), (s.row i).state = .opened → (s.row i).rowTimer = some ms →
    (s.row i).recipe = some k →
    ∃ t : State, exec (.demouldExpiry i) s = .next t ∧
      (let abandoned := (List.finRange 8).filter fun j => decide ((s.cavity i j).tool = .inTool)
      let room := 64 - s.ring.length
      let record := fun j : Fin 8 => s.freeze i j .abandoned
      let ring := s.ring ++ (abandoned.take room).map record
      (∀ j ∈ abandoned,
        (record j).cavity = j.val ∧ (record j).outcome = .abandoned ∧ (record j).outcomeTime = s.clock ∧
        (record j).verdict = (if (s.cavity i j).cure = .forced then .forced else .abandoned)) ∧
      (∀ j ∈ abandoned.take room, t.cavity i j = { s.cavity i j with
        tool := .abandoned, verdict := some (record j).verdict, record := .recorded }) ∧
      (∀ j ∈ abandoned.drop room, t.cavity i j = { s.cavity i j with
        tool := .abandoned, verdict := some (record j).verdict, record := .queued, frozen := some (record j) }) ∧
      (∀ j, (s.cavity i j).tool ≠ .inTool → t.cavity i j = s.cavity i j) ∧
      t = { s with
        rows := s.rows.set i { s.row i with rowTimer := none, cavities := (t.row i).cavities }
        runs := s.runs.set k { s.runs.get k with reserved := (s.runs.get k).reserved - abandoned.length }
        ring := ring
        recordQueue := s.recordQueue ++ (abandoned.drop room).map fun j => (i, j)
        ports := { s.ports with
          extract := if abandoned ≠ [] then s.ports.extract.raise .demouldExpired else s.ports.extract
          records :=
            if s.ring.length < 48 ∧ 48 ≤ ring.length then s.ports.records.raise .ringHigh else s.ports.records } })

/-! ### The records stream -/

/-- UNIT_TIMER (R133 to R137, R140, R141): without the ready line no unit is sent; with it one, a STATUS unit once the unit
count has reached ND, else the owed end record, else the next seven stream bytes, else a stream start, else IDLE. A record
leaves the ring with its last byte, and the head of the record queue takes the freed slot (R129). That the link holds no unit
after an expiry with the ready line down is the model's choice (log 17). The bytes of a part record and of its trace are those
of R142 to R144, and an item's value is that of R138. -/
def Obligations.UnitTimerSendsOneUnit : Prop :=
  (let two := fun n : Nat => [BitVec.ofNat 8 (n / 256), BitVec.ofNat 8 n]
  let four := fun n : Nat => two (n / 65536) ++ two n
  let signed := fun n : Int => two (n % 65536).toNat
  (∀ r : PartRecord, r.attempts ≤ 7 → r.bytes = List.flatten
    [[1#8], two (40 + 4 * r.notes.length + (traceBytes r.trace).length), two r.shot,
      [BitVec.ofNat 8 r.cavity, BitVec.ofNat 8 r.recipe, BitVec.ofNat 8 r.verdict.code], two r.net,
      [BitVec.ofNat 8 (r.attempts + (if r.timePressOpened = none then 64 else 0) + (if r.override then 128 else 0))],
      two r.targetAdj, two (r.reached.elim 65535 fun n => min n 65534), two (min r.finalCure 65535),
      r.peak.elim [0x80#8, 0x00#8] signed, two r.scorch, two r.blind, four r.timeClosed.toNat,
      four (r.timePressOpened.elim 0 BitVec.toNat), four r.outcomeTime.toNat,
      [BitVec.ofNat 8 r.outcome.code, BitVec.ofNat 8 r.notesDropped, BitVec.ofNat 8 r.notes.length],
      r.notes.flatMap fun n => BitVec.ofNat 8 n.kind.code :: BitVec.ofNat 8 n.count :: two n.offset,
      [BitVec.ofNat 8 r.trace.length, BitVec.ofNat 8 r.traceInterval], traceBytes r.trace]) ∧
  (traceBytes [] = [] ∧ (∀ p, traceBytes [p] = signed p) ∧
    ∀ points a b, traceBytes (points ++ [a, b]) = traceBytes (points ++ [a]) ++
      if -127 ≤ b - a ∧ b - a ≤ 127 then [BitVec.ofInt 8 (b - a)] else 0x80#8 :: signed b) ∧
  ∀ s : State,
    (∀ z : Fin 12,
      (∀ reading, (s.regulator.zones.get z).reading = some reading → s.itemValue z.val = signed reading) ∧
      ((s.regulator.zones.get z).reading = none → s.itemValue z.val = [0x80#8, 0x00#8]) ∧
      s.itemValue (16 + z.val) = two (s.regulator.zones.get z).duty) ∧
    (∀ j : Fin 8,
      ((∀ i, (s.row i).state ≠ .curing) → s.itemValue (32 + j.val) = [0xFF#8, 0xFF#8]) ∧
      (∀ i, s.RankLaw → (s.row i).state = .curing →
        (∀ m, (s.row m).state = .curing → (s.row i).rank.getD 0 ≤ (s.row m).rank.getD 0) →
        ((s.cavity i j).charge = .charged → s.itemValue (32 + j.val) =
          two (min 100 ((s.cavity i j).acc * 100 / ((s.cavity i j).targetAdj.getD 0 * 256)))) ∧
        ((s.cavity i j).charge ≠ .charged → s.itemValue (32 + j.val) = [0xFF#8, 0xFF#8]))) ∧
    s.itemValue 40 = s.weigh.pan.elim [0xFF#8, 0xFE#8] two ∧ s.itemValue 41 = two s.ring.length ∧
    s.itemValue 42 = two s.firing.cellShortfall ∧ s.itemValue 43 = two s.clock.toNat) ∧
  ∀ s : State,
    let sends := fun (u : State) (unit : List Byte) (stream : Option Stream) (owed : Bool) =>
      exec .unitTimer s = .next { u with streamer := { s.streamer with
        unitTimer := 1, unitOut := some unit, unitCount := s.streamer.unitCount + 1, stream := stream, endOwed := owed } }
    let kept := s.streamer.endOwed
    let zeros := fun n => List.replicate n (0#8 : Byte)
    (s.pins.readyLine = false →
      exec .unitTimer s = .next { s with streamer := { s.streamer with unitTimer := 1, unitOut := none } }) ∧
    (s.pins.readyLine = true →
      (s.settings.nd ≤ s.streamer.unitCount → ∃ (id₁ id₂ : Nat) (left : List Nat),
        (∀ a b rest, s.streamer.readback = a :: b :: rest → id₁ = a ∧ id₂ = b ∧ left = rest) ∧
        (∀ a, s.streamer.readback = [a] → id₁ = a ∧ id₂ = s.settings.autoB ∧ left = []) ∧
        (s.streamer.readback = [] → id₁ = s.settings.autoA ∧ id₂ = s.settings.autoB ∧ left = []) ∧
        exec .unitTimer s = .next { s with streamer := { s.streamer with
          unitTimer := 1
          unitOut := some ([0x02#8, (if s.streamer.fault then 1#8 else 0#8) + (if s.streamer.warning then 2#8 else 0#8),
            BitVec.ofNat 8 id₁] ++ s.itemValue id₁ ++ [BitVec.ofNat 8 id₂] ++ s.itemValue id₂)
          unitCount := 0
          fault := false
          warning := false
          readback := left } }) ∧
      (s.streamer.unitCount < s.settings.nd →
        (s.streamer.endOwed = true → sends s (0x01#8 :: zeros 7) s.streamer.stream false) ∧
        (s.streamer.endOwed = false → s.streamer.stream = none →
          (s.ring = [] → sends s (0x00#8 :: zeros 7) none kept) ∧
          (∀ r rest, s.ring = r :: rest → sends s (0x81#8 :: r.bytes.take 7) (some ⟨0, 7⟩) kept)) ∧
        (s.streamer.endOwed = false → ∀ st r rest, s.streamer.stream = some st → s.ring = r :: rest →
          (st.position + 7 < r.bytes.length →
            sends s (0x01#8 :: (r.bytes.drop st.position).take 7) (some ⟨st.ended, st.position + 7⟩) kept) ∧
          (st.position < r.bytes.length → r.bytes.length ≤ st.position + 7 →
            let last := r.bytes.drop st.position
            let u := s.recordSent
            (st.ended + 1 < s.settings.ne → ∀ next more, u.ring = next :: more →
              sends u (0x01#8 :: (last ++ next.bytes.take (7 - last.length)))
                (some ⟨st.ended + 1, 7 - last.length⟩) kept) ∧
            (s.settings.ne ≤ st.ended + 1 ∨ u.ring = [] →
              sends u (0x01#8 :: (last ++ zeros (7 - last.length))) none
                (decide (last.length = 7) && s.settings.endMarker))))))

/-! ### Recipes, runs and settings -/

/-- Validation accepts exactly the recipes of R145's ranges and R148's cross-field checks. For any other it names the field
and the index of the first check that fails, in R148's order: the first pass over the fields in number order, per-cavity
fields over the cavities of ENABLED, per-zone fields over zones 0 to 11, RATE over its entries; then the second pass. That the
second pass takes the equal zones of order 1 in cavity number order is the model's choice (log 19). The 213 bytes of a recipe carry
its 33 fields in their order, each in its size (R147), and reading them back gives the recipe: the bytes of what any 213 bytes
carry are those bytes, and a recipe whose every field fits its size is what its bytes carry. -/
def Obligations.ValidationAcceptsTheRanges : Prop :=
  (∀ r : Recipe, r.firstFailure = none ↔ r.Valid) ∧
  (∀ (r : Recipe) (field index : Nat),
    let within := fun (n low high : Int) => decide (low ≤ n ∧ n ≤ high)
    let enabled := (List.finRange 8).filter fun j => r.enabled.get j
    let whole := fun (f : Nat) (n low high : Int) => [(f, 0, within n low high)]
    let perCavity := fun (f : Nat) (passes : Fin 8 → Bool) => enabled.map fun j => (f, j.val, passes j)
    let perZone := fun (f : Nat) (passes : Fin 12 → Bool) => (List.finRange 12).map fun z => (f, z.val, passes z)
    let heated := fun (zone : Nat) => (10, zone, decide (∃ z : Fin 12, z.val = zone ∧ r.setpoint.get z ≠ 0))
    let checks : List (Nat × Nat × Bool) := List.flatten
      [whole 1 r.number 0 65535, whole 3 enabled.length 1 8,
        perCavity 4 fun j => within (r.topZone.get j) 0 11, perCavity 5 fun j => within (r.bottomZone.get j) 0 11,
        perCavity 6 fun j => within (r.offset.get j) (-200) 200, perCavity 7 fun j => within (r.nominal.get j) 0 60000,
        perCavity 8 fun j => within (r.tolLow.get j) 0 60000, perCavity 9 fun j => within (r.tolHigh.get j) 0 60000,
        perZone 10 fun z => within (r.setpoint.get z) 0 4500, perZone 11 fun z => within (r.fallbackDuty.get z) 0 100,
        perZone 12 fun z => within (r.maxDuty.get z) 0 100, whole 13 r.kp 0 255, whole 14 r.ki 0 255,
        whole 15 r.cutbackBand 0 1000, whole 16 r.base (-500) 4500, whole 17 r.width 10 500,
        (List.finRange 16).map fun e => (18, e.val, within (r.rate.get e) 0 4095), whole 19 r.cureTarget 1 65535,
        whole 20 r.targetMin 1 65535, whole 21 r.targetMax 1 65535, whole 22 r.cureAdjust 0 1000,
        whole 23 r.maxCure 1 65535, whole 24 r.scorchTemp (-700) 4700, whole 25 r.scorchAllowance 0 65535,
        whole 26 r.blindAllowance 0 65535, whole 27 r.traceInterval 1 60, whole 28 r.maxAttempts 1 7,
        whole 29 r.overrideAllowed 0 1, whole 30 r.settleBand 1 1000, whole 31 r.settleCount 1 14,
        whole 32 r.settleTimeout 100 10000, whole 33 r.demouldLimit 1 65535,
        perCavity 5 fun j => decide (r.bottomZone.get j ≠ r.topZone.get j),
        enabled.flatMap fun j => [heated (r.topZone.get j), heated (r.bottomZone.get j)],
        perZone 11 fun z => decide (r.fallbackDuty.get z ≤ r.maxDuty.get z),
        whole 19 r.cureTarget r.targetMin r.targetMax]
    r.firstFailure = some (field, index) ↔
      ∃ before after, checks = before ++ (field, index, false) :: after ∧ ∀ c ∈ before, c.2.2 = true) ∧
  (∀ l : List Byte, l.length = 213 → (Recipe.ofBytes l).toBytes = l) ∧
  (∀ r : Recipe, r.Fits → Recipe.ofBytes r.toBytes = r) ∧
  ∀ r : Recipe, ∃ enabled : Byte, (∀ j : Fin 8, enabled.getLsbD j.val = r.enabled.get j) ∧
    (let one := fun n : Nat => [BitVec.ofNat 8 n]
    let two := fun n : Nat => [BitVec.ofNat 8 (n / 256), BitVec.ofNat 8 n]
    let signed := fun n : Int => two (n % 65536).toNat
    r.toBytes = List.flatten
      [two r.number, r.name.toList, [enabled], r.topZone.toList.flatMap one, r.bottomZone.toList.flatMap one,
        r.offset.toList.flatMap signed, r.nominal.toList.flatMap two, r.tolLow.toList.flatMap two,
        r.tolHigh.toList.flatMap two, r.setpoint.toList.flatMap two, r.fallbackDuty.toList.flatMap one,
        r.maxDuty.toList.flatMap one, one r.kp, one r.ki, two r.cutbackBand, signed r.base, two r.width,
        r.rate.toList.flatMap two, two r.cureTarget, two r.targetMin, two r.targetMax, two r.cureAdjust, two r.maxCure,
        signed r.scorchTemp, two r.scorchAllowance, two r.blindAllowance, one r.traceInterval, one r.maxAttempts,
        one r.overrideAllowed, two r.settleBand, one r.settleCount, two r.settleTimeout, two r.demouldLimit])

/-- RECIPE_WRITE is refused by the first condition of R147 that holds, without any change, and otherwise the write is in
flight from now; a completed write puts the recipe with its check into the slot, VALID, raises STORE_DONE, sends a platen of
that recipe to WARMING with the idle timer afresh, and locks the store where the strap is set; LOCK_STORE locks, and
UNLOCK_STORE unlocks while every row is FREE (R40, R147, R149, R150, R152). That the strap's level comes with the completion and
is kept among the pins is the model's choice (log 4), and so is the check, a free value computed over the written bytes
(log 7). -/
def Obligations.RecipeWriteProgramsTheSlot : Prop :=
  ∀ s : State,
    let answers := fun (c : Instr) (code : ResultCode) =>
      exec c s = .next { s with reply := some (.records, ⟨code, []⟩) }
    (∀ payload : List Byte, payload.length ≠ 214 → answers (.recipeWrite payload) .malformed) ∧
    (∀ (slot : Byte) (body : List Byte), body.length = 213 → 7 < slot.toNat →
      answers (.recipeWrite (slot :: body)) .malformed) ∧
    (∀ (slot : Byte) (k : Fin 8) (body : List Byte), body.length = 213 → slot.toNat = k.val →
      let c : Instr := .recipeWrite (slot :: body)
      (s.store.lock = .locked → answers c .locked) ∧
      (s.store.lock = .unlocked →
        (s.store.write ≠ none → answers c .busy) ∧
        (s.store.write = none →
          ((∃ m, (s.row m).state ≠ .free ∧ (s.row m).recipe = some k) → answers c .inUse) ∧
          ((∀ m, (s.row m).state ≠ .free → (s.row m).recipe ≠ some k) →
            (∀ f, (Recipe.ofBytes body).firstFailure = some f → exec c s = .next
              { s with reply := some (.records, ⟨.recipeRejected, [.byte f.1, .byte f.2]⟩) }) ∧
            ((Recipe.ofBytes body).firstFailure = none → exec c s = .next
              { s with
                store := { s.store with
                  write := some { slot := k, accepted := s.clock, recipe := Recipe.ofBytes body } }
                reply := some (.records, ⟨.started, []⟩) }))))) ∧
    (∀ (strap : Bool) (w : WriteInFlight), s.store.write = some w →
      ∃ t : State, exec (.recipeWriteComplete strap) s = .next t ∧
        (let platen := s.regulator.platenRecipe = some w.slot
        let leaves := platen ∧ s.regulator.platen = .ready
        (∀ m, t.row m = { s.row m with
          permit := (s.row m).permit && !decide (leaves ∧ (s.row m).state = .charged) }) ∧
        t = { s with
          pins := { s.pins with strap := strap }
          rows := t.rows
          store := {
            slots := s.store.slots.set w.slot
              { image := .written w.recipe (Config.recipeCheck w.recipe.toBytes), validity := .valid }
            lock := if strap then .locked else s.store.lock
            write := none }
          regulator := { s.regulator with
            platen := if platen then .warming else s.regulator.platen
            dwell := if platen then 0 else s.regulator.dwell
            idleTimer := if platen then some s.clock else s.regulator.idleTimer }
          ports := { s.ports with
            press := if leaves then s.ports.press.raise .platenNotReady else s.ports.press
            records := s.ports.records.raise .storeDone } })) ∧
    exec .lockStore s = .next
      { s with store := { s.store with lock := .locked }, reply := some (.records, ⟨.done, []⟩) } ∧
    ((∀ m, (s.row m).state = .free) → exec .unlockStore s = .next
      { s with store := { s.store with lock := .unlocked }, reply := some (.records, ⟨.done, []⟩) }) ∧
    ((∃ m, (s.row m).state ≠ .free) → answers .unlockStore .inUse)

/-- SETTINGS_WRITE (R168): a payload that is no list of entries that pass is answered MALFORMED and changes nothing; a list
that passes is applied whole: a protected field while a row is not FREE is IGNORED, every other field is applied, clamped to
its range in R167, and no other field changes. A write of IDLE_LIMIT that the elapsed time has reached makes the running idle timer
expire (R38). RUN_SET and READBACK follow R154 and R139. That the IGNORED and CLAMPED lists of the reply keep the order of the
entries is the model's choice (log 12), and so is that RUN_SET stores a quantity above 65535, which no link can carry, as it
stores any other (log 13). -/
def Obligations.SettingsAndRunsAreSet : Prop :=
  ∀ s : State,
    let answers := fun (p : PortId) (c : Instr) (code : ResultCode) =>
      exec c s = .next { s with reply := some (p, ⟨code, []⟩) }
    let passes := fun (es : List (Nat × List Byte)) =>
      es ≠ [] ∧ (es.map Prod.fst).Nodup ∧ ∀ e ∈ es, 1 ≤ e.1 ∧ e.1 ≤ 20 ∧
        e.2.length = (if e.1 = 3 ∨ e.1 = 4 then 12 else 2) ∧
        (e.1 = 3 → e.2.Nodup ∧ ∀ b ∈ e.2, b.toNat ≤ 11) ∧
        (e.1 = 19 ∨ e.1 = 20 → ∃ n, isItem n = true ∧ e.2 = be2 n)
    let bytes := fun (es : List (Nat × List Byte)) => es.flatMap fun e => BitVec.ofNat 8 e.1 :: e.2
    let ignored := fun (e : Nat × List Byte) => (e.1 = 3 ∨ e.1 = 4 ∨ e.1 = 15) ∧ ∃ m, (s.row m).state ≠ .free
    let nearest := fun (e : Nat × List Byte) (low high : Nat) => max low (min high (wordAt e.2 0))
    let clamped := fun (e : Nat × List Byte) => match e.1 with
      | 3 | 15 | 19 | 20 => e.2
      | 4 => e.2.map fun b => if 99 < b.toNat then 99#8 else b
      | 1 | 2 => be2 (nearest e 0 12)
      | 5 | 12 => be2 (nearest e 100 10000)
      | 6 => be2 (nearest e 10 500)
      | 7 => be2 (nearest e 1 15)
      | 8 => be2 (nearest e 0 65535)
      | 9 => be2 (nearest e 0 4500)
      | 10 => be2 (nearest e 1 1000)
      | 11 => be2 (nearest e 1 14)
      | 13 | 14 => be2 (nearest e 0 60000)
      | 16 => be2 (nearest e 1 255)
      | 17 => be2 (nearest e 1 32)
      | 18 => be2 (nearest e 0 1)
      | _ => e.2
    (∀ payload, (∀ es, passes es → payload ≠ bytes es) → answers .records (.settingsWrite payload) .malformed) ∧
    (∀ es, passes es → ∃ c : Settings,
      (∀ e ∈ es, c.value e.1 = if ignored e then s.settings.value e.1 else clamped e) ∧
      (∀ f, f ∉ es.map Prod.fst → c.value f = s.settings.value f) ∧
      (let u : State := { s with settings := c }
      let reply : Option (PortId × Reply) := some (.records, ⟨.done,
        listFields (es.filter fun e => decide (ignored e)) (fun e => [.byte e.1]) ++
          listFields (es.filter fun e => decide (¬ignored e ∧ clamped e ≠ e.2)) fun e => [.byte e.1]⟩)
      let expires := 8 ∈ es.map Prod.fst ∧ c.idleLimit ≠ 0 ∧
        ∃ start, s.regulator.idleTimer = some start ∧ c.idleLimit ≤ elapsed s.clock start / 1000
      (¬expires → exec (.settingsWrite (bytes es)) s = .next { u with reply := reply }) ∧
      (expires → ∃ v, exec .idleExpiry u = .next v ∧
        exec (.settingsWrite (bytes es)) s = .next { v with reply := reply }))) ∧
    (∀ recipe mode quantity : Nat, 7 < recipe ∨ 2 < mode →
      answers .records (.runSet recipe mode quantity) .malformed) ∧
    (∀ (k : Fin 8) (mode : RunMode) (quantity : Nat),
      let e := s.runs.get k
      (mode = .counted → quantity < e.reserved → answers .records (.runSet k.val mode.code quantity) .belowReserved) ∧
      (mode = .counted → e.reserved ≤ quantity → exec (.runSet k.val mode.code quantity) s = .next
        { s with
          runs := s.runs.set k { e with mode := .counted, remaining := quantity }
          reply := some (.records, ⟨.done, []⟩) }) ∧
      (mode ≠ .counted → exec (.runSet k.val mode.code quantity) s = .next
        { s with runs := s.runs.set k { e with mode := mode }, reply := some (.records, ⟨.done, []⟩) })) ∧
    ∀ (p : PortId) (item : Nat),
      let known := item ≤ 11 ∨ (16 ≤ item ∧ item ≤ 27) ∨ (32 ≤ item ∧ item ≤ 43)
      (¬known → answers p (.readback p item) .malformed) ∧
      (known → s.streamer.readback.length < 16 → exec (.readback p item) s = .next
        { s with
          streamer := { s.streamer with readback := s.streamer.readback ++ [item] }
          reply := some (p, ⟨.done, []⟩) }) ∧
      (known → 16 ≤ s.streamer.readback.length → exec (.readback p item) s = .next
        { s with
          streamer := { s.streamer with warning := true }
          reply := some (p, ⟨.dropped, []⟩) })

/-- The queries change no state but the reply. STATUS carries 183 bytes after its result code, the values of R166 in its order,
the strap's level among them as it stands (log 4); SETTINGS_READ the 20 fields in their order and sizes (R169); RECIPE_READ the
form that validity, port and lock give (R153); RUN_QUERY the entry, with remaining − reserved for a COUNTED one (R155);
WEIGH_RESULT the last result and what runs (R96). Values take the sizes, and names the codes, of R143 and R161 to R163. The
layout of the groups that may be absent in the last three replies is the model's (log 11). -/
def Obligations.QueriesOnlyReply : Prop :=
  (∀ n : Nat, (ReplyField.byte n).bytes = [BitVec.ofNat 8 n] ∧
    (ReplyField.word n).bytes = [BitVec.ofNat 8 (n / 256), BitVec.ofNat 8 n] ∧
    (ReplyField.long n).bytes = (ReplyField.word (n / 65536)).bytes ++ (ReplyField.word n).bytes ∧
    ∀ z : Int, (ReplyField.signed z).bytes = (ReplyField.word (z % 65536).toNat).bytes) ∧
  ((ReplyField.flag false).bytes = [0#8] ∧ (ReplyField.flag true).bytes = [1#8] ∧ ∀ l, (ReplyField.raw l).bytes = l) ∧
  ([RowState.free, .open_, .charged, .curing, .releasable, .opened].map RowState.code = List.range 6 ∧
    [ChargeState.empty, .awaitCharge, .charged, .void].map ChargeState.code = List.range 4 ∧
    [CureStatus.none, .curing, .reached, .timedOut, .forced].map CureStatus.code = List.range 5 ∧
    [ToolStatus.notInTool, .inTool, .granted, .removed, .stuck, .abandoned, .cleared].map ToolStatus.code = List.range 7 ∧
    [RecordStatus.notDue, .queued, .recorded].map RecordStatus.code = List.range 3 ∧
    [SensorState.none, .ok, .stale, .open_, .range].map SensorState.code = List.range 5 ∧
    [PlatenState.off, .warming, .ready, .standby].map PlatenState.code = List.range 4 ∧
    [WeighClass.accept, .light, .heavy, .emptyPan, .unstable, .overload, .cancelled].map WeighClass.code = List.range 7 ∧
    [TareOutcome.tared, .tareReject, .unstable, .overload, .cancelled].map TareOutcome.code = List.range 5 ∧
    [Validity.valid, .empty, .corrupt].map Validity.code = List.range 3 ∧
    [LockState.locked, .unlocked].map LockState.code = List.range 2 ∧
    [RunMode.unset, .counted, .continuous].map RunMode.code = List.range 3) ∧
  ([Verdict.good, .outOfTolerance, .suspect, .undercure, .scorched, .abandoned, .stuck, .forced].map Verdict.code =
      List.range 8 ∧
    [ToolOutcome.removed, .stuck, .abandoned, .cleared].map ToolOutcome.code = List.range' 1 4 ∧
    [NoteKind.unpermittedClose, .overrideCharge, .forcedOpen, .clearedByCell, .supplyShortfall, .zoneFaultTop,
      .zoneFaultBottom, .blind, .traceTruncated, .interlockBreak, .noGrant].map NoteKind.code = List.range' 1 11 ∧
    [NoticeKind.cycleOpened, .releasable, .pressOpened, .cellFault, .platenReady, .platenNotReady, .tareDone, .weighDone,
      .grantRevoked, .demouldExpired, .toolClear, .runComplete, .ringHigh, .storeDone, .storeCorrupt].map NoticeKind.code =
      List.range 15 ∧
    [DenyReason.notCharged, .platenNotReady, .toolNotClear, .pressBusy, .grantHeld, .interlock, .wrongState].map
      DenyReason.code = List.range 7 ∧
    [ResultCode.done, .started, .granted, .denied, .malformed, .unknownRequest, .refusedRole, .unknownShot, .duplicateShot,
      .tableFull, .wrongState, .sequence, .busy, .recipeConflict, .recipeInvalid, .recipeRejected, .noRun, .runComplete,
      .belowReserved, .inUse, .locked, .noTare, .alreadyCharged, .attemptsExhausted, .notAccepted, .overrideForbidden,
      .late, .ringFull, .dropped].map ResultCode.code = List.range 29) ∧
  ∀ (s : State) (p : PortId),
    let replies := fun (from_ : PortId) (c : Instr) (code : ResultCode) (fields : List ReplyField) =>
      exec c s = .next { s with reply := some (from_, ⟨code, fields⟩) }
    (replies p (.status p) .done s.statusFields ∧ (s.statusFields.flatMap ReplyField.bytes).length = 183) ∧
    (∃ running : List ReplyField,
      ((∀ m, (s.row m).state = .free) → running = [.flag false, .byte 0]) ∧
      (s.TableLaw → ∀ m k, (s.row m).state ≠ .free → (s.row m).recipe = some k → running = [.flag true, .byte k.val]) ∧
      (let slot := fun k : Option (Fin 8) => [ReplyField.flag k.isSome, .byte ((k.map Fin.val).getD 0)]
      let inputs := s.extraction.inputs
      let weight := fun (level : Bool) (n : Nat) => if level then n else 0
      let counts := fun q : Port => [ReplyField.word q.frameErrors, .word q.overruns]
      s.statusFields = List.flatten
        [[.long s.clock.toNat, .flag s.pins.mainsHold, .flag s.pins.strap],
          [.byte ((List.finRange 8).countP fun m => (s.row m).state = .free)], running,
          [.byte s.regulator.platen.code], slot s.regulator.platenRecipe, [.byte s.regulator.dwell],
          [.flag s.regulator.idleTimer.isSome,
            .long (s.regulator.idleTimer.elim 0 fun start => elapsed s.clock start / 1000),
            .word s.regulator.sampleErrors],
          (List.finRange 12).flatMap fun z =>
            let zone := s.regulator.zones.get z
            [.byte zone.sensor.code, .flag zone.reading.isSome, .signed (zone.reading.getD 0), .word zone.setpoint,
              .byte zone.duty, .byte zone.shortfall, .word zone.totalShortfall],
          [.word s.firing.cellShortfall, .byte s.firing.limit],
          [.byte (s.weigh.run.elim 0 fun run => if run.ticket = none then 1 else 2), .flag s.weigh.tare.isSome],
          [.byte (weight inputs.pressAtTop 1 + weight inputs.ejectForward 2 + weight inputs.curtainClear 4 +
            weight inputs.robotZoneFree 8)],
          [.flag s.extraction.grant.isSome, .word (s.extraction.grant.elim 0 Grant.shot),
            .byte (s.extraction.grant.elim 0 fun g => g.cavity.val), .byte s.extraction.uncleared],
          [.byte s.recordQueue.length, .byte s.ring.length],
          [.byte s.streamer.readback.length, .flag s.pins.readyLine, .flag s.streamer.stream.isSome],
          [.byte s.store.lock.code], slot (s.store.write.map WriteInFlight.slot),
          (List.finRange 8).map fun k => .byte (s.store.slots.get k).validity.code,
          counts s.ports.press, counts s.ports.charge, counts s.ports.extract, counts s.ports.records])) ∧
    (∃ fields, replies p (.settingsRead p) .done fields ∧
      fields.flatMap ReplyField.bytes = (List.range 20).flatMap fun f => s.settings.value (f + 1)) ∧
    (∀ slot, 7 < slot → replies p (.recipeRead p slot) .malformed [] ∧ replies p (.runQuery p slot) .malformed []) ∧
    (∀ k : Fin 8,
      let slot := s.store.slots.get k
      let r := s.recipeAt k
      let head := fun (form : Nat) => [ReplyField.byte k.val, .byte slot.validity.code, .byte form]
      (s.store.write.map WriteInFlight.slot = some k → replies p (.recipeRead p k.val) .busy []) ∧
      (s.store.write.map WriteInFlight.slot ≠ some k →
        (slot.validity ≠ .valid → replies p (.recipeRead p k.val) .done (head 0)) ∧
        (slot.validity = .valid → p = .records ∨ s.store.lock = .unlocked →
          replies p (.recipeRead p k.val) .done (head 1 ++ r.fields)) ∧
        (slot.validity = .valid → p ≠ .records → s.store.lock = .locked →
          replies p (.recipeRead p k.val) .done (head 0 ++ [.word r.number, .raw r.name.toList,
            .byte ((List.finRange 8).countP fun j => r.enabled.get j)]))) ∧
      let e := s.runs.get k
      replies p (.runQuery p k.val) .done [.byte e.mode.code, .word e.remaining, .byte e.reserved,
        .flag (decide (e.mode = .counted)), .word (if e.mode = .counted then e.remaining - e.reserved else 0)]) ∧
    ∃ result running tare outcome : List ReplyField,
      replies .charge .weighResult .done (result ++ running ++ tare ++ outcome) ∧
      (∀ r, s.weigh.result = some r → result = [.flag true, .word r.shot, .byte r.cavity.val,
        .flag r.gross.isSome, .word (r.gross.getD 0), .flag r.net.isSome, .word (r.net.getD 0), .byte r.cls.code,
        .byte r.attempt, .word r.samples, .long r.time.toNat, .flag r.admitted, .flag r.orphaned]) ∧
      (s.weigh.result = none → result = [.flag false, .word 0, .byte 0, .flag false, .word 0, .flag false, .word 0,
        .byte 0, .byte 0, .word 0, .long 0, .flag false, .flag false]) ∧
      (s.weigh.run = none → running = [.byte 0, .flag false, .word 0, .byte 0]) ∧
      (∀ run, s.weigh.run = some run → run.ticket = none → running = [.byte 1, .flag false, .word 0, .byte 0]) ∧
      (∀ run t, s.weigh.run = some run → run.ticket = some t →
        running = [.byte 2, .flag true, .word t.shot, .byte t.cavity.val]) ∧
      tare = [.flag s.weigh.tare.isSome, .word (s.weigh.tare.getD 0)] ∧
      (s.weigh.tareOutcome = none → outcome = [.flag false, .byte 0, .flag false, .word 0]) ∧
      ∀ o v, s.weigh.tareOutcome = some (o, v) →
        outcome = [.flag true, .byte o.code, .flag v.isSome, .word (v.getD 0)]
end

