-- ==== Sys2Proof/Laws/Vec.lean ====
section
/-! SUPPORT. The laws of the fixed-length vectors: reading after a write, a map or a construction; when every entry, some
entry, or the first entry meets a test. -/

namespace Sys2Proof.Vec

variable {α β : Type} {n : Nat}

theorem get_eq (v : Vec α n) (i : Fin n) : v.get i = v.toList[i.val]'(by rw [v.size]; exact i.isLt) := rfl

theorem ext_get {v w : Vec α n} (h : ∀ i, v.get i = w.get i) : v = w := by
  obtain ⟨l, hl⟩ := v
  obtain ⟨m, hm⟩ := w
  have : l = m := by
    apply List.ext_getElem (by omega)
    intro k h₁ h₂
    simpa [get_eq] using h ⟨k, by omega⟩
  subst this
  rfl

@[simp] theorem get_set_self (v : Vec α n) (i : Fin n) (a : α) : (v.set i a).get i = a := by
  simp [get_eq, set]

theorem get_set_ne (v : Vec α n) {i k : Fin n} (a : α) (h : i ≠ k) : (v.set i a).get k = v.get k := by
  have : (i : Nat) ≠ k := fun e => h (Fin.ext e)
  simp [get_eq, set, List.getElem_set_ne this]

theorem get_set (v : Vec α n) (i k : Fin n) (a : α) : (v.set i a).get k = if i = k then a else v.get k := by
  split
  · subst_vars; simp
  · rw [get_set_ne _ _ ‹_›]

@[simp] theorem get_modify_self (v : Vec α n) (i : Fin n) (f : α → α) : (v.modify i f).get i = f (v.get i) := by
  simp [modify]

theorem get_modify_ne (v : Vec α n) {i k : Fin n} (f : α → α) (h : i ≠ k) : (v.modify i f).get k = v.get k := by
  simp [modify, get_set_ne _ _ h]

theorem get_modify (v : Vec α n) (i k : Fin n) (f : α → α) :
    (v.modify i f).get k = if i = k then f (v.get k) else v.get k := by
  unfold modify
  rw [get_set]
  split <;> simp_all

@[simp] theorem get_map (v : Vec α n) (f : α → β) (i : Fin n) : (v.map f).get i = f (v.get i) := by
  simp [get_eq, map]

@[simp] theorem get_ofFn (f : Fin n → α) (i : Fin n) : (ofFn f).get i = f i := by simp [get_eq, ofFn]

@[simp] theorem get_mapIdx (v : Vec α n) (f : Fin n → α → β) (i : Fin n) : (v.mapIdx f).get i = f i (v.get i) := by
  simp [mapIdx]

@[simp] theorem get_replicate (a : α) (i : Fin n) : (replicate n a).get i = a := by
  simp [get_eq, replicate]

@[simp] theorem set_get_self (v : Vec α n) (i : Fin n) : v.set i (v.get i) = v :=
  ext_get fun k => by rw [get_set]; split <;> simp_all

@[simp] theorem set_set_self (v : Vec α n) (i : Fin n) (a b : α) : (v.set i a).set i b = v.set i b :=
  ext_get fun k => by simp only [get_set]; split <;> rfl

theorem toList_eq (v : Vec α n) : v.toList = (List.finRange n).map v.get := by
  apply List.ext_getElem (by simp [v.size])
  intro k h₁ h₂
  simp [get_eq]

@[simp] theorem toList_ofFn (f : Fin n → α) : (ofFn f).toList = (List.finRange n).map f := rfl

theorem all_iff (v : Vec α n) (p : α → Bool) : v.all p = true ↔ ∀ i, p (v.get i) = true := by
  simp [all, toList_eq]

theorem any_iff (v : Vec α n) (p : α → Bool) : v.any p = true ↔ ∃ i, p (v.get i) = true := by
  simp [any, toList_eq]

theorem any_eq_false_iff (v : Vec α n) (p : α → Bool) : v.any p = false ↔ ∀ i, p (v.get i) = false := by
  simp [any, toList_eq]

theorem count_eq (v : Vec α n) (p : α → Bool) : v.count p = (List.finRange n).countP fun i => p (v.get i) := by
  simp [count, toList_eq, List.countP_map, Function.comp_def]

theorem find_eq_some {v : Vec α n} {p : α → Bool} {i : Fin n} (h : v.find p = some i) : p (v.get i) = true := by
  simpa using List.find?_some (p := fun i => p (v.get i)) h

theorem find_eq_none_iff (v : Vec α n) (p : α → Bool) : v.find p = none ↔ ∀ i, p (v.get i) = false := by
  simp [find]

/-- The only entry that meets the test is the one found. -/
theorem find_unique {v : Vec α n} {p : α → Bool} {i : Fin n} (h : p (v.get i) = true)
    (u : ∀ k, p (v.get k) = true → k = i) : v.find p = some i := by
  cases hf : v.find p with
  | none => rw [find_eq_none_iff] at hf; simp [hf i] at h
  | some k => rw [u k (find_eq_some hf)]

/-- The lowest-numbered entry that meets the test is the one found. -/
theorem find_lowest {v : Vec α n} {p : α → Bool} {i : Fin n} (h : p (v.get i) = true)
    (low : ∀ k, k < i → p (v.get k) = false) : v.find p = some i := by
  have hn : v.find p ≠ none := fun hf => by rw [find_eq_none_iff] at hf; simp [hf i] at h
  obtain ⟨k, hk⟩ := Option.ne_none_iff_exists'.mp hn
  have hk' := hk
  unfold find at hk'
  rw [List.find?_eq_some_iff_getElem] at hk'
  obtain ⟨hp, m, hm, rfl, before⟩ := hk'
  rw [hk]
  congr 1
  apply Fin.ext
  simp only [List.getElem_finRange, Fin.val_cast]
  rcases Nat.lt_trichotomy m i.val with hlt | heq | hgt
  · have := low ⟨m, by simpa using hm⟩ (by simpa [Fin.lt_def] using hlt)
    simp_all
  · exact heq
  · have := before i.val hgt
    simp_all

end Sys2Proof.Vec
end

