-- ==== Sys2Proof/Laws/State.lean ====
section
/-! SUPPORT. The field lemmas of the state: what each named update leaves in each field, one lemma per field per update,
all true by `rfl`; and reading back what was written. -/

namespace Sys2Proof.Machine

/-! ### What an update does not touch -/

@[simp] theorem State.setPort_pending (s : State) (p : PortId) (q : Port) : (s.setPort p q).pending = s.pending := rfl
@[simp] theorem State.setPort_clock (s : State) (p : PortId) (q : Port) : (s.setPort p q).clock = s.clock := rfl
@[simp] theorem State.setPort_pins (s : State) (p : PortId) (q : Port) : (s.setPort p q).pins = s.pins := rfl
@[simp] theorem State.setPort_rows (s : State) (p : PortId) (q : Port) : (s.setPort p q).rows = s.rows := rfl
@[simp] theorem State.setPort_regulator (s : State) (p : PortId) (q : Port) :
    (s.setPort p q).regulator = s.regulator := rfl
@[simp] theorem State.setPort_firing (s : State) (p : PortId) (q : Port) : (s.setPort p q).firing = s.firing := rfl
@[simp] theorem State.setPort_weigh (s : State) (p : PortId) (q : Port) : (s.setPort p q).weigh = s.weigh := rfl
@[simp] theorem State.setPort_extraction (s : State) (p : PortId) (q : Port) :
    (s.setPort p q).extraction = s.extraction := rfl
@[simp] theorem State.setPort_recordQueue (s : State) (p : PortId) (q : Port) :
    (s.setPort p q).recordQueue = s.recordQueue := rfl
@[simp] theorem State.setPort_ring (s : State) (p : PortId) (q : Port) : (s.setPort p q).ring = s.ring := rfl
@[simp] theorem State.setPort_streamer (s : State) (p : PortId) (q : Port) :
    (s.setPort p q).streamer = s.streamer := rfl
@[simp] theorem State.setPort_store (s : State) (p : PortId) (q : Port) : (s.setPort p q).store = s.store := rfl
@[simp] theorem State.setPort_settings (s : State) (p : PortId) (q : Port) :
    (s.setPort p q).settings = s.settings := rfl
@[simp] theorem State.setPort_runs (s : State) (p : PortId) (q : Port) : (s.setPort p q).runs = s.runs := rfl
@[simp] theorem State.setPort_reply (s : State) (p : PortId) (q : Port) : (s.setPort p q).reply = s.reply := rfl
@[simp] theorem State.setPort_raceCount (s : State) (p : PortId) (q : Port) :
    (s.setPort p q).raceCount = s.raceCount := rfl

@[simp] theorem State.raise_pending (s : State) (p : PortId) (k : NoticeKind) : (s.raise p k).pending = s.pending := rfl
@[simp] theorem State.raise_clock (s : State) (p : PortId) (k : NoticeKind) : (s.raise p k).clock = s.clock := rfl
@[simp] theorem State.raise_pins (s : State) (p : PortId) (k : NoticeKind) : (s.raise p k).pins = s.pins := rfl
@[simp] theorem State.raise_rows (s : State) (p : PortId) (k : NoticeKind) : (s.raise p k).rows = s.rows := rfl
@[simp] theorem State.raise_regulator (s : State) (p : PortId) (k : NoticeKind) :
    (s.raise p k).regulator = s.regulator := rfl
@[simp] theorem State.raise_firing (s : State) (p : PortId) (k : NoticeKind) : (s.raise p k).firing = s.firing := rfl
@[simp] theorem State.raise_weigh (s : State) (p : PortId) (k : NoticeKind) : (s.raise p k).weigh = s.weigh := rfl
@[simp] theorem State.raise_extraction (s : State) (p : PortId) (k : NoticeKind) :
    (s.raise p k).extraction = s.extraction := rfl
@[simp] theorem State.raise_recordQueue (s : State) (p : PortId) (k : NoticeKind) :
    (s.raise p k).recordQueue = s.recordQueue := rfl
@[simp] theorem State.raise_ring (s : State) (p : PortId) (k : NoticeKind) : (s.raise p k).ring = s.ring := rfl
@[simp] theorem State.raise_streamer (s : State) (p : PortId) (k : NoticeKind) :
    (s.raise p k).streamer = s.streamer := rfl
@[simp] theorem State.raise_store (s : State) (p : PortId) (k : NoticeKind) : (s.raise p k).store = s.store := rfl
@[simp] theorem State.raise_settings (s : State) (p : PortId) (k : NoticeKind) :
    (s.raise p k).settings = s.settings := rfl
@[simp] theorem State.raise_runs (s : State) (p : PortId) (k : NoticeKind) : (s.raise p k).runs = s.runs := rfl
@[simp] theorem State.raise_reply (s : State) (p : PortId) (k : NoticeKind) : (s.raise p k).reply = s.reply := rfl
@[simp] theorem State.raise_raceCount (s : State) (p : PortId) (k : NoticeKind) :
    (s.raise p k).raceCount = s.raceCount := rfl

@[simp] theorem State.setFault_pending (s : State) : (s.setFault).pending = s.pending := rfl
@[simp] theorem State.setFault_clock (s : State) : (s.setFault).clock = s.clock := rfl
@[simp] theorem State.setFault_pins (s : State) : (s.setFault).pins = s.pins := rfl
@[simp] theorem State.setFault_rows (s : State) : (s.setFault).rows = s.rows := rfl
@[simp] theorem State.setFault_regulator (s : State) : (s.setFault).regulator = s.regulator := rfl
@[simp] theorem State.setFault_firing (s : State) : (s.setFault).firing = s.firing := rfl
@[simp] theorem State.setFault_weigh (s : State) : (s.setFault).weigh = s.weigh := rfl
@[simp] theorem State.setFault_extraction (s : State) : (s.setFault).extraction = s.extraction := rfl
@[simp] theorem State.setFault_recordQueue (s : State) : (s.setFault).recordQueue = s.recordQueue := rfl
@[simp] theorem State.setFault_ring (s : State) : (s.setFault).ring = s.ring := rfl
@[simp] theorem State.setFault_store (s : State) : (s.setFault).store = s.store := rfl
@[simp] theorem State.setFault_ports (s : State) : (s.setFault).ports = s.ports := rfl
@[simp] theorem State.setFault_settings (s : State) : (s.setFault).settings = s.settings := rfl
@[simp] theorem State.setFault_runs (s : State) : (s.setFault).runs = s.runs := rfl
@[simp] theorem State.setFault_reply (s : State) : (s.setFault).reply = s.reply := rfl
@[simp] theorem State.setFault_raceCount (s : State) : (s.setFault).raceCount = s.raceCount := rfl

@[simp] theorem State.setWarning_pending (s : State) : (s.setWarning).pending = s.pending := rfl
@[simp] theorem State.setWarning_clock (s : State) : (s.setWarning).clock = s.clock := rfl
@[simp] theorem State.setWarning_pins (s : State) : (s.setWarning).pins = s.pins := rfl
@[simp] theorem State.setWarning_rows (s : State) : (s.setWarning).rows = s.rows := rfl
@[simp] theorem State.setWarning_regulator (s : State) : (s.setWarning).regulator = s.regulator := rfl
@[simp] theorem State.setWarning_firing (s : State) : (s.setWarning).firing = s.firing := rfl
@[simp] theorem State.setWarning_weigh (s : State) : (s.setWarning).weigh = s.weigh := rfl
@[simp] theorem State.setWarning_extraction (s : State) : (s.setWarning).extraction = s.extraction := rfl
@[simp] theorem State.setWarning_recordQueue (s : State) : (s.setWarning).recordQueue = s.recordQueue := rfl
@[simp] theorem State.setWarning_ring (s : State) : (s.setWarning).ring = s.ring := rfl
@[simp] theorem State.setWarning_store (s : State) : (s.setWarning).store = s.store := rfl
@[simp] theorem State.setWarning_ports (s : State) : (s.setWarning).ports = s.ports := rfl
@[simp] theorem State.setWarning_settings (s : State) : (s.setWarning).settings = s.settings := rfl
@[simp] theorem State.setWarning_runs (s : State) : (s.setWarning).runs = s.runs := rfl
@[simp] theorem State.setWarning_reply (s : State) : (s.setWarning).reply = s.reply := rfl
@[simp] theorem State.setWarning_raceCount (s : State) : (s.setWarning).raceCount = s.raceCount := rfl

@[simp] theorem State.cellFault_pending (s : State) : (s.cellFault).pending = s.pending := rfl
@[simp] theorem State.cellFault_clock (s : State) : (s.cellFault).clock = s.clock := rfl
@[simp] theorem State.cellFault_pins (s : State) : (s.cellFault).pins = s.pins := rfl
@[simp] theorem State.cellFault_rows (s : State) : (s.cellFault).rows = s.rows := rfl
@[simp] theorem State.cellFault_regulator (s : State) : (s.cellFault).regulator = s.regulator := rfl
@[simp] theorem State.cellFault_firing (s : State) : (s.cellFault).firing = s.firing := rfl
@[simp] theorem State.cellFault_weigh (s : State) : (s.cellFault).weigh = s.weigh := rfl
@[simp] theorem State.cellFault_extraction (s : State) : (s.cellFault).extraction = s.extraction := rfl
@[simp] theorem State.cellFault_recordQueue (s : State) : (s.cellFault).recordQueue = s.recordQueue := rfl
@[simp] theorem State.cellFault_ring (s : State) : (s.cellFault).ring = s.ring := rfl
@[simp] theorem State.cellFault_store (s : State) : (s.cellFault).store = s.store := rfl
@[simp] theorem State.cellFault_settings (s : State) : (s.cellFault).settings = s.settings := rfl
@[simp] theorem State.cellFault_runs (s : State) : (s.cellFault).runs = s.runs := rfl
@[simp] theorem State.cellFault_reply (s : State) : (s.cellFault).reply = s.reply := rfl
@[simp] theorem State.cellFault_raceCount (s : State) : (s.cellFault).raceCount = s.raceCount := rfl

@[simp] theorem State.withReply_pending (s : State) (p : PortId) (r : Reply) :
    (s.withReply p r).pending = s.pending := rfl
@[simp] theorem State.withReply_clock (s : State) (p : PortId) (r : Reply) : (s.withReply p r).clock = s.clock := rfl
@[simp] theorem State.withReply_pins (s : State) (p : PortId) (r : Reply) : (s.withReply p r).pins = s.pins := rfl
@[simp] theorem State.withReply_rows (s : State) (p : PortId) (r : Reply) : (s.withReply p r).rows = s.rows := rfl
@[simp] theorem State.withReply_regulator (s : State) (p : PortId) (r : Reply) :
    (s.withReply p r).regulator = s.regulator := rfl
@[simp] theorem State.withReply_firing (s : State) (p : PortId) (r : Reply) : (s.withReply p r).firing = s.firing := rfl
@[simp] theorem State.withReply_weigh (s : State) (p : PortId) (r : Reply) : (s.withReply p r).weigh = s.weigh := rfl
@[simp] theorem State.withReply_extraction (s : State) (p : PortId) (r : Reply) :
    (s.withReply p r).extraction = s.extraction := rfl
@[simp] theorem State.withReply_recordQueue (s : State) (p : PortId) (r : Reply) :
    (s.withReply p r).recordQueue = s.recordQueue := rfl
@[simp] theorem State.withReply_ring (s : State) (p : PortId) (r : Reply) : (s.withReply p r).ring = s.ring := rfl
@[simp] theorem State.withReply_streamer (s : State) (p : PortId) (r : Reply) :
    (s.withReply p r).streamer = s.streamer := rfl
@[simp] theorem State.withReply_store (s : State) (p : PortId) (r : Reply) : (s.withReply p r).store = s.store := rfl
@[simp] theorem State.withReply_ports (s : State) (p : PortId) (r : Reply) : (s.withReply p r).ports = s.ports := rfl
@[simp] theorem State.withReply_settings (s : State) (p : PortId) (r : Reply) :
    (s.withReply p r).settings = s.settings := rfl
@[simp] theorem State.withReply_runs (s : State) (p : PortId) (r : Reply) : (s.withReply p r).runs = s.runs := rfl
@[simp] theorem State.withReply_raceCount (s : State) (p : PortId) (r : Reply) :
    (s.withReply p r).raceCount = s.raceCount := rfl

@[simp] theorem State.setRow_pending (s : State) (i : Fin 8) (r : Row) : (s.setRow i r).pending = s.pending := rfl
@[simp] theorem State.setRow_clock (s : State) (i : Fin 8) (r : Row) : (s.setRow i r).clock = s.clock := rfl
@[simp] theorem State.setRow_pins (s : State) (i : Fin 8) (r : Row) : (s.setRow i r).pins = s.pins := rfl
@[simp] theorem State.setRow_regulator (s : State) (i : Fin 8) (r : Row) : (s.setRow i r).regulator = s.regulator := rfl
@[simp] theorem State.setRow_firing (s : State) (i : Fin 8) (r : Row) : (s.setRow i r).firing = s.firing := rfl
@[simp] theorem State.setRow_weigh (s : State) (i : Fin 8) (r : Row) : (s.setRow i r).weigh = s.weigh := rfl
@[simp] theorem State.setRow_extraction (s : State) (i : Fin 8) (r : Row) :
    (s.setRow i r).extraction = s.extraction := rfl
@[simp] theorem State.setRow_recordQueue (s : State) (i : Fin 8) (r : Row) :
    (s.setRow i r).recordQueue = s.recordQueue := rfl
@[simp] theorem State.setRow_ring (s : State) (i : Fin 8) (r : Row) : (s.setRow i r).ring = s.ring := rfl
@[simp] theorem State.setRow_streamer (s : State) (i : Fin 8) (r : Row) : (s.setRow i r).streamer = s.streamer := rfl
@[simp] theorem State.setRow_store (s : State) (i : Fin 8) (r : Row) : (s.setRow i r).store = s.store := rfl
@[simp] theorem State.setRow_ports (s : State) (i : Fin 8) (r : Row) : (s.setRow i r).ports = s.ports := rfl
@[simp] theorem State.setRow_settings (s : State) (i : Fin 8) (r : Row) : (s.setRow i r).settings = s.settings := rfl
@[simp] theorem State.setRow_runs (s : State) (i : Fin 8) (r : Row) : (s.setRow i r).runs = s.runs := rfl
@[simp] theorem State.setRow_reply (s : State) (i : Fin 8) (r : Row) : (s.setRow i r).reply = s.reply := rfl
@[simp] theorem State.setRow_raceCount (s : State) (i : Fin 8) (r : Row) : (s.setRow i r).raceCount = s.raceCount := rfl

@[simp] theorem State.modifyCavity_pending (s : State) (i j : Fin 8) (f : Cavity → Cavity) :
    (s.modifyCavity i j f).pending = s.pending := rfl
@[simp] theorem State.modifyCavity_clock (s : State) (i j : Fin 8) (f : Cavity → Cavity) :
    (s.modifyCavity i j f).clock = s.clock := rfl
@[simp] theorem State.modifyCavity_pins (s : State) (i j : Fin 8) (f : Cavity → Cavity) :
    (s.modifyCavity i j f).pins = s.pins := rfl
@[simp] theorem State.modifyCavity_regulator (s : State) (i j : Fin 8) (f : Cavity → Cavity) :
    (s.modifyCavity i j f).regulator = s.regulator := rfl
@[simp] theorem State.modifyCavity_firing (s : State) (i j : Fin 8) (f : Cavity → Cavity) :
    (s.modifyCavity i j f).firing = s.firing := rfl
@[simp] theorem State.modifyCavity_weigh (s : State) (i j : Fin 8) (f : Cavity → Cavity) :
    (s.modifyCavity i j f).weigh = s.weigh := rfl
@[simp] theorem State.modifyCavity_extraction (s : State) (i j : Fin 8) (f : Cavity → Cavity) :
    (s.modifyCavity i j f).extraction = s.extraction := rfl
@[simp] theorem State.modifyCavity_recordQueue (s : State) (i j : Fin 8) (f : Cavity → Cavity) :
    (s.modifyCavity i j f).recordQueue = s.recordQueue := rfl
@[simp] theorem State.modifyCavity_ring (s : State) (i j : Fin 8) (f : Cavity → Cavity) :
    (s.modifyCavity i j f).ring = s.ring := rfl
@[simp] theorem State.modifyCavity_streamer (s : State) (i j : Fin 8) (f : Cavity → Cavity) :
    (s.modifyCavity i j f).streamer = s.streamer := rfl
@[simp] theorem State.modifyCavity_store (s : State) (i j : Fin 8) (f : Cavity → Cavity) :
    (s.modifyCavity i j f).store = s.store := rfl
@[simp] theorem State.modifyCavity_ports (s : State) (i j : Fin 8) (f : Cavity → Cavity) :
    (s.modifyCavity i j f).ports = s.ports := rfl
@[simp] theorem State.modifyCavity_settings (s : State) (i j : Fin 8) (f : Cavity → Cavity) :
    (s.modifyCavity i j f).settings = s.settings := rfl
@[simp] theorem State.modifyCavity_runs (s : State) (i j : Fin 8) (f : Cavity → Cavity) :
    (s.modifyCavity i j f).runs = s.runs := rfl
@[simp] theorem State.modifyCavity_reply (s : State) (i j : Fin 8) (f : Cavity → Cavity) :
    (s.modifyCavity i j f).reply = s.reply := rfl
@[simp] theorem State.modifyCavity_raceCount (s : State) (i j : Fin 8) (f : Cavity → Cavity) :
    (s.modifyCavity i j f).raceCount = s.raceCount := rfl

@[simp] theorem State.modifyRun_pending (s : State) (k : Fin 8) (f : RunEntry → RunEntry) :
    (s.modifyRun k f).pending = s.pending := rfl
@[simp] theorem State.modifyRun_clock (s : State) (k : Fin 8) (f : RunEntry → RunEntry) :
    (s.modifyRun k f).clock = s.clock := rfl
@[simp] theorem State.modifyRun_pins (s : State) (k : Fin 8) (f : RunEntry → RunEntry) :
    (s.modifyRun k f).pins = s.pins := rfl
@[simp] theorem State.modifyRun_rows (s : State) (k : Fin 8) (f : RunEntry → RunEntry) :
    (s.modifyRun k f).rows = s.rows := rfl
@[simp] theorem State.modifyRun_regulator (s : State) (k : Fin 8) (f : RunEntry → RunEntry) :
    (s.modifyRun k f).regulator = s.regulator := rfl
@[simp] theorem State.modifyRun_firing (s : State) (k : Fin 8) (f : RunEntry → RunEntry) :
    (s.modifyRun k f).firing = s.firing := rfl
@[simp] theorem State.modifyRun_weigh (s : State) (k : Fin 8) (f : RunEntry → RunEntry) :
    (s.modifyRun k f).weigh = s.weigh := rfl
@[simp] theorem State.modifyRun_extraction (s : State) (k : Fin 8) (f : RunEntry → RunEntry) :
    (s.modifyRun k f).extraction = s.extraction := rfl
@[simp] theorem State.modifyRun_recordQueue (s : State) (k : Fin 8) (f : RunEntry → RunEntry) :
    (s.modifyRun k f).recordQueue = s.recordQueue := rfl
@[simp] theorem State.modifyRun_ring (s : State) (k : Fin 8) (f : RunEntry → RunEntry) :
    (s.modifyRun k f).ring = s.ring := rfl
@[simp] theorem State.modifyRun_streamer (s : State) (k : Fin 8) (f : RunEntry → RunEntry) :
    (s.modifyRun k f).streamer = s.streamer := rfl
@[simp] theorem State.modifyRun_store (s : State) (k : Fin 8) (f : RunEntry → RunEntry) :
    (s.modifyRun k f).store = s.store := rfl
@[simp] theorem State.modifyRun_ports (s : State) (k : Fin 8) (f : RunEntry → RunEntry) :
    (s.modifyRun k f).ports = s.ports := rfl
@[simp] theorem State.modifyRun_settings (s : State) (k : Fin 8) (f : RunEntry → RunEntry) :
    (s.modifyRun k f).settings = s.settings := rfl
@[simp] theorem State.modifyRun_reply (s : State) (k : Fin 8) (f : RunEntry → RunEntry) :
    (s.modifyRun k f).reply = s.reply := rfl
@[simp] theorem State.modifyRun_raceCount (s : State) (k : Fin 8) (f : RunEntry → RunEntry) :
    (s.modifyRun k f).raceCount = s.raceCount := rfl

@[simp] theorem State.startIdle_pending (s : State) : (s.startIdle).pending = s.pending := rfl
@[simp] theorem State.startIdle_clock (s : State) : (s.startIdle).clock = s.clock := rfl
@[simp] theorem State.startIdle_pins (s : State) : (s.startIdle).pins = s.pins := rfl
@[simp] theorem State.startIdle_rows (s : State) : (s.startIdle).rows = s.rows := rfl
@[simp] theorem State.startIdle_firing (s : State) : (s.startIdle).firing = s.firing := rfl
@[simp] theorem State.startIdle_weigh (s : State) : (s.startIdle).weigh = s.weigh := rfl
@[simp] theorem State.startIdle_extraction (s : State) : (s.startIdle).extraction = s.extraction := rfl
@[simp] theorem State.startIdle_recordQueue (s : State) : (s.startIdle).recordQueue = s.recordQueue := rfl
@[simp] theorem State.startIdle_ring (s : State) : (s.startIdle).ring = s.ring := rfl
@[simp] theorem State.startIdle_streamer (s : State) : (s.startIdle).streamer = s.streamer := rfl
@[simp] theorem State.startIdle_store (s : State) : (s.startIdle).store = s.store := rfl
@[simp] theorem State.startIdle_ports (s : State) : (s.startIdle).ports = s.ports := rfl
@[simp] theorem State.startIdle_settings (s : State) : (s.startIdle).settings = s.settings := rfl
@[simp] theorem State.startIdle_runs (s : State) : (s.startIdle).runs = s.runs := rfl
@[simp] theorem State.startIdle_reply (s : State) : (s.startIdle).reply = s.reply := rfl
@[simp] theorem State.startIdle_raceCount (s : State) : (s.startIdle).raceCount = s.raceCount := rfl

@[simp] theorem State.stopIdle_pending (s : State) : (s.stopIdle).pending = s.pending := rfl
@[simp] theorem State.stopIdle_clock (s : State) : (s.stopIdle).clock = s.clock := rfl
@[simp] theorem State.stopIdle_pins (s : State) : (s.stopIdle).pins = s.pins := rfl
@[simp] theorem State.stopIdle_rows (s : State) : (s.stopIdle).rows = s.rows := rfl
@[simp] theorem State.stopIdle_firing (s : State) : (s.stopIdle).firing = s.firing := rfl
@[simp] theorem State.stopIdle_weigh (s : State) : (s.stopIdle).weigh = s.weigh := rfl
@[simp] theorem State.stopIdle_extraction (s : State) : (s.stopIdle).extraction = s.extraction := rfl
@[simp] theorem State.stopIdle_recordQueue (s : State) : (s.stopIdle).recordQueue = s.recordQueue := rfl
@[simp] theorem State.stopIdle_ring (s : State) : (s.stopIdle).ring = s.ring := rfl
@[simp] theorem State.stopIdle_streamer (s : State) : (s.stopIdle).streamer = s.streamer := rfl
@[simp] theorem State.stopIdle_store (s : State) : (s.stopIdle).store = s.store := rfl
@[simp] theorem State.stopIdle_ports (s : State) : (s.stopIdle).ports = s.ports := rfl
@[simp] theorem State.stopIdle_settings (s : State) : (s.stopIdle).settings = s.settings := rfl
@[simp] theorem State.stopIdle_runs (s : State) : (s.stopIdle).runs = s.runs := rfl
@[simp] theorem State.stopIdle_reply (s : State) : (s.stopIdle).reply = s.reply := rfl
@[simp] theorem State.stopIdle_raceCount (s : State) : (s.stopIdle).raceCount = s.raceCount := rfl

@[simp] theorem State.clearRow_pending (s : State) (i : Fin 8) : (s.clearRow i).pending = s.pending := rfl
@[simp] theorem State.clearRow_clock (s : State) (i : Fin 8) : (s.clearRow i).clock = s.clock := rfl
@[simp] theorem State.clearRow_pins (s : State) (i : Fin 8) : (s.clearRow i).pins = s.pins := rfl
@[simp] theorem State.clearRow_regulator (s : State) (i : Fin 8) : (s.clearRow i).regulator = s.regulator := rfl
@[simp] theorem State.clearRow_firing (s : State) (i : Fin 8) : (s.clearRow i).firing = s.firing := rfl
@[simp] theorem State.clearRow_extraction (s : State) (i : Fin 8) : (s.clearRow i).extraction = s.extraction := rfl
@[simp] theorem State.clearRow_recordQueue (s : State) (i : Fin 8) : (s.clearRow i).recordQueue = s.recordQueue := rfl
@[simp] theorem State.clearRow_ring (s : State) (i : Fin 8) : (s.clearRow i).ring = s.ring := rfl
@[simp] theorem State.clearRow_streamer (s : State) (i : Fin 8) : (s.clearRow i).streamer = s.streamer := rfl
@[simp] theorem State.clearRow_store (s : State) (i : Fin 8) : (s.clearRow i).store = s.store := rfl
@[simp] theorem State.clearRow_ports (s : State) (i : Fin 8) : (s.clearRow i).ports = s.ports := rfl
@[simp] theorem State.clearRow_settings (s : State) (i : Fin 8) : (s.clearRow i).settings = s.settings := rfl
@[simp] theorem State.clearRow_runs (s : State) (i : Fin 8) : (s.clearRow i).runs = s.runs := rfl
@[simp] theorem State.clearRow_reply (s : State) (i : Fin 8) : (s.clearRow i).reply = s.reply := rfl
@[simp] theorem State.clearRow_raceCount (s : State) (i : Fin 8) : (s.clearRow i).raceCount = s.raceCount := rfl

@[simp] theorem State.raiseRunComplete_pending (s : State) : (s.raiseRunComplete).pending = s.pending := rfl
@[simp] theorem State.raiseRunComplete_clock (s : State) : (s.raiseRunComplete).clock = s.clock := rfl
@[simp] theorem State.raiseRunComplete_pins (s : State) : (s.raiseRunComplete).pins = s.pins := rfl
@[simp] theorem State.raiseRunComplete_rows (s : State) : (s.raiseRunComplete).rows = s.rows := rfl
@[simp] theorem State.raiseRunComplete_regulator (s : State) : (s.raiseRunComplete).regulator = s.regulator := rfl
@[simp] theorem State.raiseRunComplete_firing (s : State) : (s.raiseRunComplete).firing = s.firing := rfl
@[simp] theorem State.raiseRunComplete_weigh (s : State) : (s.raiseRunComplete).weigh = s.weigh := rfl
@[simp] theorem State.raiseRunComplete_extraction (s : State) : (s.raiseRunComplete).extraction = s.extraction := rfl
@[simp] theorem State.raiseRunComplete_recordQueue (s : State) : (s.raiseRunComplete).recordQueue = s.recordQueue := rfl
@[simp] theorem State.raiseRunComplete_ring (s : State) : (s.raiseRunComplete).ring = s.ring := rfl
@[simp] theorem State.raiseRunComplete_streamer (s : State) : (s.raiseRunComplete).streamer = s.streamer := rfl
@[simp] theorem State.raiseRunComplete_store (s : State) : (s.raiseRunComplete).store = s.store := rfl
@[simp] theorem State.raiseRunComplete_settings (s : State) : (s.raiseRunComplete).settings = s.settings := rfl
@[simp] theorem State.raiseRunComplete_runs (s : State) : (s.raiseRunComplete).runs = s.runs := rfl
@[simp] theorem State.raiseRunComplete_reply (s : State) : (s.raiseRunComplete).reply = s.reply := rfl
@[simp] theorem State.raiseRunComplete_raceCount (s : State) : (s.raiseRunComplete).raceCount = s.raceCount := rfl

@[simp] theorem State.enterReleasable_pending (s : State) (i : Fin 8) : (s.enterReleasable i).pending = s.pending := rfl
@[simp] theorem State.enterReleasable_clock (s : State) (i : Fin 8) : (s.enterReleasable i).clock = s.clock := rfl
@[simp] theorem State.enterReleasable_pins (s : State) (i : Fin 8) : (s.enterReleasable i).pins = s.pins := rfl
@[simp] theorem State.enterReleasable_regulator (s : State) (i : Fin 8) :
    (s.enterReleasable i).regulator = s.regulator := rfl
@[simp] theorem State.enterReleasable_firing (s : State) (i : Fin 8) : (s.enterReleasable i).firing = s.firing := rfl
@[simp] theorem State.enterReleasable_weigh (s : State) (i : Fin 8) : (s.enterReleasable i).weigh = s.weigh := rfl
@[simp] theorem State.enterReleasable_extraction (s : State) (i : Fin 8) :
    (s.enterReleasable i).extraction = s.extraction := rfl
@[simp] theorem State.enterReleasable_recordQueue (s : State) (i : Fin 8) :
    (s.enterReleasable i).recordQueue = s.recordQueue := rfl
@[simp] theorem State.enterReleasable_ring (s : State) (i : Fin 8) : (s.enterReleasable i).ring = s.ring := rfl
@[simp] theorem State.enterReleasable_streamer (s : State) (i : Fin 8) :
    (s.enterReleasable i).streamer = s.streamer := rfl
@[simp] theorem State.enterReleasable_store (s : State) (i : Fin 8) : (s.enterReleasable i).store = s.store := rfl
@[simp] theorem State.enterReleasable_settings (s : State) (i : Fin 8) :
    (s.enterReleasable i).settings = s.settings := rfl
@[simp] theorem State.enterReleasable_runs (s : State) (i : Fin 8) : (s.enterReleasable i).runs = s.runs := rfl
@[simp] theorem State.enterReleasable_reply (s : State) (i : Fin 8) : (s.enterReleasable i).reply = s.reply := rfl
@[simp] theorem State.enterReleasable_raceCount (s : State) (i : Fin 8) :
    (s.enterReleasable i).raceCount = s.raceCount := rfl

@[simp] theorem State.setRun_pending (s : State) (run : SettleRun) : (s.setRun run).pending = s.pending := rfl
@[simp] theorem State.setRun_clock (s : State) (run : SettleRun) : (s.setRun run).clock = s.clock := rfl
@[simp] theorem State.setRun_pins (s : State) (run : SettleRun) : (s.setRun run).pins = s.pins := rfl
@[simp] theorem State.setRun_rows (s : State) (run : SettleRun) : (s.setRun run).rows = s.rows := rfl
@[simp] theorem State.setRun_regulator (s : State) (run : SettleRun) : (s.setRun run).regulator = s.regulator := rfl
@[simp] theorem State.setRun_firing (s : State) (run : SettleRun) : (s.setRun run).firing = s.firing := rfl
@[simp] theorem State.setRun_extraction (s : State) (run : SettleRun) : (s.setRun run).extraction = s.extraction := rfl
@[simp] theorem State.setRun_recordQueue (s : State) (run : SettleRun) :
    (s.setRun run).recordQueue = s.recordQueue := rfl
@[simp] theorem State.setRun_ring (s : State) (run : SettleRun) : (s.setRun run).ring = s.ring := rfl
@[simp] theorem State.setRun_streamer (s : State) (run : SettleRun) : (s.setRun run).streamer = s.streamer := rfl
@[simp] theorem State.setRun_store (s : State) (run : SettleRun) : (s.setRun run).store = s.store := rfl
@[simp] theorem State.setRun_ports (s : State) (run : SettleRun) : (s.setRun run).ports = s.ports := rfl
@[simp] theorem State.setRun_settings (s : State) (run : SettleRun) : (s.setRun run).settings = s.settings := rfl
@[simp] theorem State.setRun_runs (s : State) (run : SettleRun) : (s.setRun run).runs = s.runs := rfl
@[simp] theorem State.setRun_reply (s : State) (run : SettleRun) : (s.setRun run).reply = s.reply := rfl
@[simp] theorem State.setRun_raceCount (s : State) (run : SettleRun) : (s.setRun run).raceCount = s.raceCount := rfl

@[simp] theorem State.setStream_pending (s : State) (st : Option Stream) : (s.setStream st).pending = s.pending := rfl
@[simp] theorem State.setStream_clock (s : State) (st : Option Stream) : (s.setStream st).clock = s.clock := rfl
@[simp] theorem State.setStream_pins (s : State) (st : Option Stream) : (s.setStream st).pins = s.pins := rfl
@[simp] theorem State.setStream_rows (s : State) (st : Option Stream) : (s.setStream st).rows = s.rows := rfl
@[simp] theorem State.setStream_regulator (s : State) (st : Option Stream) :
    (s.setStream st).regulator = s.regulator := rfl
@[simp] theorem State.setStream_firing (s : State) (st : Option Stream) : (s.setStream st).firing = s.firing := rfl
@[simp] theorem State.setStream_weigh (s : State) (st : Option Stream) : (s.setStream st).weigh = s.weigh := rfl
@[simp] theorem State.setStream_extraction (s : State) (st : Option Stream) :
    (s.setStream st).extraction = s.extraction := rfl
@[simp] theorem State.setStream_recordQueue (s : State) (st : Option Stream) :
    (s.setStream st).recordQueue = s.recordQueue := rfl
@[simp] theorem State.setStream_ring (s : State) (st : Option Stream) : (s.setStream st).ring = s.ring := rfl
@[simp] theorem State.setStream_store (s : State) (st : Option Stream) : (s.setStream st).store = s.store := rfl
@[simp] theorem State.setStream_ports (s : State) (st : Option Stream) : (s.setStream st).ports = s.ports := rfl
@[simp] theorem State.setStream_settings (s : State) (st : Option Stream) :
    (s.setStream st).settings = s.settings := rfl
@[simp] theorem State.setStream_runs (s : State) (st : Option Stream) : (s.setStream st).runs = s.runs := rfl
@[simp] theorem State.setStream_reply (s : State) (st : Option Stream) : (s.setStream st).reply = s.reply := rfl
@[simp] theorem State.setStream_raceCount (s : State) (st : Option Stream) :
    (s.setStream st).raceCount = s.raceCount := rfl

/-! ### What an update writes -/

@[simp] theorem State.setRow_rows (s : State) (i : Fin 8) (r : Row) : (s.setRow i r).rows = s.rows.set i r := rfl
@[simp] theorem State.modifyRun_runs (s : State) (k : Fin 8) (f : RunEntry → RunEntry) :
    (s.modifyRun k f).runs = s.runs.modify k f := rfl
@[simp] theorem State.withReply_reply (s : State) (p : PortId) (r : Reply) :
    (s.withReply p r).reply = some (p, r) := rfl
@[simp] theorem State.setFault_fault (s : State) : s.setFault.streamer.fault = true := rfl
@[simp] theorem State.setFault_warning (s : State) : s.setFault.streamer.warning = s.streamer.warning := rfl
@[simp] theorem State.setWarning_warning (s : State) : s.setWarning.streamer.warning = true := rfl
@[simp] theorem State.setWarning_fault (s : State) : s.setWarning.streamer.fault = s.streamer.fault := rfl
@[simp] theorem State.setRun_run (s : State) (run : SettleRun) : (s.setRun run).weigh.run = some run := rfl
@[simp] theorem State.setStream_stream (s : State) (st : Option Stream) : (s.setStream st).streamer.stream = st := rfl
@[simp] theorem State.startIdle_idleTimer (s : State) : s.startIdle.regulator.idleTimer = some s.clock := rfl
@[simp] theorem State.stopIdle_idleTimer (s : State) : s.stopIdle.regulator.idleTimer = none := rfl
@[simp] theorem State.startIdle_platen (s : State) : s.startIdle.regulator.platen = s.regulator.platen := rfl
@[simp] theorem State.stopIdle_platen (s : State) : s.stopIdle.regulator.platen = s.regulator.platen := rfl

/-! ### Rows and cavities -/

@[simp] theorem State.row_setRow_self (s : State) (i : Fin 8) (r : Row) :
    (s.setRow i r).row i = r := by simp [State.row]

theorem State.row_setRow_ne (s : State) {i k : Fin 8} (r : Row) (h : i ≠ k) : (s.setRow i r).row k = s.row k := by
  simp [State.row, Vec.get_set_ne _ _ h]

theorem State.row_setRow (s : State) (i k : Fin 8) (r : Row) :
    (s.setRow i r).row k = if i = k then r else s.row k := by simp [State.row, Vec.get_set]

@[simp] theorem State.row_modifyCavity_self (s : State) (i j : Fin 8) (f : Cavity → Cavity) :
    (s.modifyCavity i j f).row i = (s.row i).modifyCavity j f := by simp [State.modifyCavity]

theorem State.row_modifyCavity_ne (s : State) {i k : Fin 8} (j : Fin 8) (f : Cavity → Cavity) (h : i ≠ k) :
    (s.modifyCavity i j f).row k = s.row k := by simp [State.modifyCavity, State.row_setRow_ne _ _ h]

@[simp] theorem Row.modifyCavity_state (r : Row) (j : Fin 8) (f : Cavity → Cavity) :
    (r.modifyCavity j f).state = r.state := rfl
@[simp] theorem Row.modifyCavity_shot (r : Row) (j : Fin 8) (f : Cavity → Cavity) :
    (r.modifyCavity j f).shot = r.shot := rfl
@[simp] theorem Row.modifyCavity_recipe (r : Row) (j : Fin 8) (f : Cavity → Cavity) :
    (r.modifyCavity j f).recipe = r.recipe := rfl
@[simp] theorem Row.modifyCavity_rank (r : Row) (j : Fin 8) (f : Cavity → Cavity) :
    (r.modifyCavity j f).rank = r.rank := rfl
@[simp] theorem Row.modifyCavity_rowTimer (r : Row) (j : Fin 8) (f : Cavity → Cavity) :
    (r.modifyCavity j f).rowTimer = r.rowTimer := rfl
@[simp] theorem Row.modifyCavity_stepTimer (r : Row) (j : Fin 8) (f : Cavity → Cavity) :
    (r.modifyCavity j f).stepTimer = r.stepTimer := rfl
@[simp] theorem Row.modifyCavity_timeClosed (r : Row) (j : Fin 8) (f : Cavity → Cavity) :
    (r.modifyCavity j f).timeClosed = r.timeClosed := rfl

@[simp] theorem State.cavity_modifyCavity_self (s : State) (i j : Fin 8) (f : Cavity → Cavity) :
    (s.modifyCavity i j f).cavity i j = f (s.cavity i j) := by
  simp [State.cavity, Row.modifyCavity]

theorem State.cavity_modifyCavity_ne (s : State) {i j k l : Fin 8} (f : Cavity → Cavity) (h : (i, j) ≠ (k, l)) :
    (s.modifyCavity i j f).cavity k l = s.cavity k l := by
  by_cases hi : i = k
  · subst hi
    have hj : j ≠ l := fun e => h (by rw [e])
    simp [State.cavity, Row.modifyCavity, Vec.get_modify_ne _ _ hj]
  · simp [State.cavity, State.row_modifyCavity_ne _ _ _ hi]

/-- Two states with the same rows read the same row. -/
theorem State.row_congr {s t : State} (h : s.rows = t.rows) (i : Fin 8) : s.row i = t.row i := by
  unfold State.row; rw [h]

/-- Two states with the same rows read the same cavity slot. -/
theorem State.cavity_congr {s t : State} (h : s.rows = t.rows) (i j : Fin 8) : s.cavity i j = t.cavity i j := by
  unfold State.cavity; rw [State.row_congr h]

/-! ### Ports -/

@[simp] theorem State.port_setPort_self (s : State) (p : PortId) (q : Port) : (s.setPort p q).port p = q := by
  cases p <;> rfl

theorem State.port_setPort_ne (s : State) {p r : PortId} (q : Port) (h : p ≠ r) : (s.setPort p q).port r = s.port r := by
  cases p <;> cases r <;> first | rfl | exact absurd rfl h

@[simp] theorem Port.raise_receiver (q : Port) (k : NoticeKind) : (q.raise k).receiver = q.receiver := rfl
@[simp] theorem Port.raise_waiting (q : Port) (k : NoticeKind) : (q.raise k).waiting = q.waiting := rfl
@[simp] theorem Port.raise_frameErrors (q : Port) (k : NoticeKind) : (q.raise k).frameErrors = q.frameErrors := rfl
@[simp] theorem Port.raise_overruns (q : Port) (k : NoticeKind) : (q.raise k).overruns = q.overruns := rfl
@[simp] theorem Port.raise_attention (q : Port) (k : NoticeKind) : (q.raise k).attention = true := rfl

/-! ### The freed condition -/

@[simp] theorem Row.freed_state : Row.freed.state = .free := rfl
@[simp] theorem Row.freed_live : Row.freed.live = false := rfl
@[simp] theorem Row.freed_inPress : Row.freed.inPress = false := rfl
@[simp] theorem Row.freed_cavity (j : Fin 8) : Row.freed.cavities.get j = Cavity.freed := by simp [Row.freed]

end Sys2Proof.Machine
end

