-- ==== Sys2Proof/Laws/Ops.lean ====
section
/-! SUPPORT. What the shared operations do, said once for each of them: how a request finds its row, notes, the freeing of a
row, the due record, the platen's transitions, the end of a settle run, and the receiver of a port. Later proofs cite these and unfold none of the
operations. -/

namespace Sys2Proof.Machine

/-! ### Ports -/

@[simp] theorem Ports.get_set_self (ps : Ports) (p : PortId) (q : Port) : (ps.set p q).get p = q := by cases p <;> rfl

theorem Ports.get_set_ne (ps : Ports) {p p' : PortId} (q : Port) (h : p ≠ p') : (ps.set p q).get p' = ps.get p' := by
  cases p <;> cases p' <;> first | exact absurd rfl h | rfl

/-- The notice set after a raise holds the kind and what it held (R164). -/
theorem mem_insertNotice (k x : NoticeKind) (l : List NoticeKind) : x ∈ insertNotice k l ↔ x = k ∨ x ∈ l := by
  induction l with
  | nil => simp [insertNotice]
  | cons y ys ih =>
    simp only [insertNotice]
    split
    · next h => subst h; simp
    · split
      · simp
      · simp only [List.mem_cons, ih]; tauto

/-! ### How a request finds its row (R2) -/

theorem shotOk_iff (shot : Nat) : shotOk shot = true ↔ ShotNumber shot := by simp [shotOk]

@[simp] theorem index8_val (j : Fin 8) : index8 j.val = some j := by simp [index8, j.isLt]

theorem index8_eq_none {n : Nat} (h : 7 < n) : index8 n = none := by simp [index8]; omega

theorem State.findShot_of_names {s : State} {shot : Nat} {i : Fin 8} (h : s.Names shot i) :
    s.findShot shot = some i := by
  obtain ⟨-, hl, hs, hu⟩ := h
  refine Vec.find_unique (by simp [Row.live, State.row] at *; exact ⟨hl, hs⟩) fun k hk => ?_
  simp [Row.live] at hk
  exact hu k hk.1 hk.2

theorem State.findShot_of_namesNone {s : State} {shot : Nat} (h : s.NamesNone shot) : s.findShot shot = none := by
  rw [State.findShot, Vec.find_eq_none_iff]
  intro i
  have := h.2 i
  simp only [State.row] at this
  by_cases hl : (s.rows.get i).state = .free <;> simp_all [Row.live]

theorem State.onShot_of_names {s : State} {shot : Nat} {i : Fin 8} (h : s.Names shot i) (k : Fin 8 → State × Reply) :
    s.onShot shot k = k i := by
  simp [State.onShot, (shotOk_iff shot).2 h.1, State.findShot_of_names h]

theorem State.onShot_of_namesNone {s : State} {shot : Nat} (h : s.NamesNone shot) (k : Fin 8 → State × Reply) :
    s.onShot shot k = (s, .plain .unknownShot) := by
  simp [State.onShot, (shotOk_iff shot).2 h.1, State.findShot_of_namesNone h]

theorem State.onShot_zero (s : State) (k : Fin 8 → State × Reply) : s.onShot 0 k = (s, .plain .malformed) := rfl

theorem State.onCavity_of_names {s : State} {shot : Nat} {i : Fin 8} (h : s.Names shot i) (j : Fin 8)
    (k : Fin 8 → Fin 8 → State × Reply) : s.onCavity shot j.val k = k i j := by
  simp [State.onCavity, State.onShot_of_names h]

theorem State.onCavity_of_namesNone {s : State} {shot : Nat} (h : s.NamesNone shot) (j : Fin 8)
    (k : Fin 8 → Fin 8 → State × Reply) : s.onCavity shot j.val k = (s, .plain .unknownShot) := by
  simp [State.onCavity, State.onShot_of_namesNone h]

theorem State.onCavity_of_range (s : State) {shot cavity : Nat} (h : 7 < cavity) (k : Fin 8 → Fin 8 → State × Reply) :
    s.onCavity shot cavity k = (s, .plain .malformed) := by
  simp [State.onCavity, index8_eq_none h]

/-! ### The table as a whole -/

theorem State.allFree_iff (s : State) : s.allFree = true ↔ ∀ i, (s.row i).state = .free := by
  simp [State.allFree, Vec.all_iff, Row.live, State.row]

theorem State.liveCount_eq (s : State) : s.liveCount = s.liveRows := by
  simp [State.liveCount, State.liveRows, Vec.count_eq, Row.live, State.row]

theorem State.rowRecipe_of_some {s : State} {i k : Fin 8} (h : (s.row i).recipe = some k) :
    s.rowRecipe i = s.recipeAt k := by simp [State.rowRecipe, h]

/-- Two states whose rows agree one by one have the same rows. -/
theorem State.rows_ext {s t : State} (h : ∀ i, s.row i = t.row i) : s.rows = t.rows := Vec.ext_get h

/-- Two rows that agree but for their cavities, and whose cavities agree one by one, are equal. -/
theorem Row.ext_cavities {r q : Row} (h : r = { q with cavities := r.cavities })
    (hc : ∀ j, r.cavities.get j = q.cavities.get j) : r = q := by
  rw [h, Vec.ext_get hc]

/-! ### Notes (R119) -/

/-- A note given to a cavity reaches its notes list and its dropped count, and nothing else. -/
theorem Cavity.giveNote_frame (kind : NoteKind) (offset : Nat) (c : Cavity) :
    c.giveNote kind offset =
      { c with notes := (c.giveNote kind offset).notes, notesDropped := (c.giveNote kind offset).notesDropped } := by
  simp only [Cavity.giveNote]; split <;> [rfl; (split <;> [rfl; (split <;> rfl)])]

/-- A cavity whose record is due takes no note. -/
theorem Cavity.giveNote_due {c : Cavity} (kind : NoteKind) (offset : Nat) (h : c.record ≠ .notDue) :
    c.giveNote kind offset = c := by simp [Cavity.giveNote, h]

@[simp] theorem Cavity.giveNote_charge (kind : NoteKind) (n : Nat) (c : Cavity) :
    (c.giveNote kind n).charge = c.charge := by rw [Cavity.giveNote_frame]
@[simp] theorem Cavity.giveNote_chargeRec (kind : NoteKind) (n : Nat) (c : Cavity) :
    (c.giveNote kind n).chargeRec = c.chargeRec := by rw [Cavity.giveNote_frame]
@[simp] theorem Cavity.giveNote_cure (kind : NoteKind) (n : Nat) (c : Cavity) :
    (c.giveNote kind n).cure = c.cure := by rw [Cavity.giveNote_frame]
@[simp] theorem Cavity.giveNote_targetAdj (kind : NoteKind) (n : Nat) (c : Cavity) :
    (c.giveNote kind n).targetAdj = c.targetAdj := by rw [Cavity.giveNote_frame]
@[simp] theorem Cavity.giveNote_acc (kind : NoteKind) (n : Nat) (c : Cavity) :
    (c.giveNote kind n).acc = c.acc := by rw [Cavity.giveNote_frame]
@[simp] theorem Cavity.giveNote_tool (kind : NoteKind) (n : Nat) (c : Cavity) :
    (c.giveNote kind n).tool = c.tool := by rw [Cavity.giveNote_frame]
@[simp] theorem Cavity.giveNote_record (kind : NoteKind) (n : Nat) (c : Cavity) :
    (c.giveNote kind n).record = c.record := by rw [Cavity.giveNote_frame]
@[simp] theorem Cavity.giveNote_frozen (kind : NoteKind) (n : Nat) (c : Cavity) :
    (c.giveNote kind n).frozen = c.frozen := by rw [Cavity.giveNote_frame]

/-! ### Freeing a row (R1, R3, R23) -/

@[simp] theorem State.clearRow_row_self (s : State) (i : Fin 8) : (s.clearRow i).row i = Row.freed := by
  simp [State.clearRow, State.row]

theorem State.clearRow_row_ne (s : State) {i k : Fin 8} (h : i ≠ k) :
    (s.clearRow i).row k = (s.row k).closeRank (s.row i).rank := by
  simp [State.clearRow, State.row, Vec.get_set_ne _ _ h]

/-- A younger row's rank closes up, and nothing else of a row changes. -/
theorem Row.closeRank_eq (g : Nat) (r : Row) :
    r.closeRank (some g) = { r with rank := r.rank.map fun n => if g < n then n - 1 else n } := by
  simp only [Row.closeRank]
  cases hr : r.rank with
  | none => cases r; simp_all
  | some m => simp only [Option.map_some]; split <;> cases r <;> simp_all

@[simp] theorem Row.closeRank_state (g : Option Nat) (r : Row) : (r.closeRank g).state = r.state := by
  unfold Row.closeRank; split <;> [(split <;> rfl); rfl]

/-- Freeing a row is clearing it, with the idle timer started where every row is then FREE. -/
theorem State.freeRow_eq (s : State) (i : Fin 8) :
    s.freeRow i = { s.clearRow i with
      regulator := { s.regulator with
        idleTimer := if ∀ k, k ≠ i → (s.row k).state = .free then some s.clock else s.regulator.idleTimer } } := by
  have hall : (s.clearRow i).allFree = true ↔ ∀ k, k ≠ i → (s.row k).state = .free := by
    rw [State.allFree_iff]
    constructor
    · intro h k hk
      simpa [State.clearRow_row_ne s hk.symm] using h k
    · intro h k
      by_cases hk : i = k
      · subst hk; simp [Row.freed]
      · simpa [State.clearRow_row_ne s hk] using h k (Ne.symm hk)
  by_cases h : ∀ k, k ≠ i → (s.row k).state = .free
  · simp only [State.freeRow, State.tableEmptied, hall.2 h, if_pos h, if_true]
    rfl
  · have : (s.clearRow i).allFree = false := by
      cases hf : (s.clearRow i).allFree with
      | true => exact absurd (hall.1 hf) h
      | false => rfl
    simp only [State.freeRow, State.tableEmptied, this, if_neg h]
    rfl

/-- The freeing condition in the spec's words (R22). -/
theorem Row.freeable_iff (r : Row) : r.freeable = true ↔ r.state = .opened ∧ ∀ j,
    ¬(r.cavities.get j).InTool ∧ ((r.cavities.get j).record = .recorded ∨
      (r.cavities.get j).record = .notDue ∧ (r.cavities.get j).charge ≠ .charged) := by
  simp only [Row.freeable, Bool.and_eq_true, Vec.all_iff, beq_iff_eq]
  refine and_congr_right fun _ => forall_congr' fun j => and_congr ?_ ?_
  · cases h : (r.cavities.get j).tool <;> simp [Cavity.toolCleared, h]
  · cases h : (r.cavities.get j).record <;> simp [Cavity.isRecorded, Cavity.partBearing, h]

/-! ### Due records (R121 to R130) -/

/-- A record enters the ring as its newest, with RING_HIGH where the count rises to 48; nothing else changes. -/
theorem State.enterRing_eq (s : State) (r : PartRecord) :
    s.enterRing r = { s with
      ring := s.ring ++ [r]
      ports := { s.ports with
        records := if s.ring.length = 47 then s.ports.records.raise .ringHigh else s.ports.records } } := by
  simp only [State.enterRing, Config.ringHigh]
  by_cases h : s.ring.length = 47
  · simp [h, State.raise, State.setPort, Ports.set, State.port, Ports.get]
  · have : ¬s.ring.length + 1 = 48 := by omega
    simp [h]

/-- With a free ring slot the record enters the ring and the cavity is RECORDED. -/
theorem State.placeRecord_room {s : State} {i j : Fin 8} (r : PartRecord) (h : s.ring.length < 64) :
    s.placeRecord i j r = (s.modifyCavity i j fun c => { c with record := .recorded }).enterRing r := by
  simp [State.placeRecord, Config.ringSlots, h]

/-- With the ring full the cavity keeps its frozen record and joins the queue. -/
theorem State.placeRecord_full {s : State} {i j : Fin 8} (r : PartRecord) (h : 64 ≤ s.ring.length) :
    s.placeRecord i j r =
      { s.modifyCavity i j (fun c => { c with record := .queued, frozen := some r }) with
        recordQueue := s.recordQueue ++ [(i, j)] } := by
  simp [State.placeRecord, Config.ringSlots, Nat.not_lt.2 h]

/-- The run accounting writes the entry of the row's slot, and raises RUN_COMPLETE where remaining falls to 0. -/
theorem State.accountRun_some (s : State) (k : Fin 8) (v : Verdict) :
    s.accountRun (some k) v = { s with
      runs := s.runs.set k ((s.runs.get k).account v)
      ports := if (s.runs.get k).completes v then
          { s.ports with
            press := s.ports.press.raise .runComplete
            charge := s.ports.charge.raise .runComplete
            records := s.ports.records.raise .runComplete }
        else s.ports } := by
  simp only [State.accountRun]
  split <;> rfl

/-- With the record queue empty, a sent record leaves the ring and nothing else changes. -/
theorem State.recordSent_nil {s : State} (h : s.recordQueue = []) : s.recordSent = { s with ring := s.ring.tail } := by
  simp [State.recordSent, h]

/-! ### The uncleared count (R102, R116) -/

theorem State.lowerUncleared_eq (s : State) :
    s.lowerUncleared = { s with
      extraction := { s.extraction with uncleared := s.extraction.uncleared - 1 }
      ports := { s.ports with
        press := if s.extraction.uncleared = 1 then s.ports.press.raise .toolClear else s.ports.press } } := by
  unfold State.lowerUncleared
  split <;> rfl

/-! ### The platen (R31, R37, R39) -/

theorem Row.clearPermit_eq (r : Row) :
    r.clearPermit = { r with permit := r.permit && !decide (r.state = .charged) } := by
  unfold Row.clearPermit
  split <;> cases r <;> simp_all

/-- Leaving READY raises PLATEN_NOT_READY and clears the permits of CHARGED rows; from another state nothing follows. -/
theorem State.leaveReady_eq (s : State) :
    s.leaveReady = { s with
      rows := if s.regulator.platen = .ready then s.rows.map Row.clearPermit else s.rows
      ports := { s.ports with
        press := if s.regulator.platen = .ready then s.ports.press.raise .platenNotReady else s.ports.press } } := by
  unfold State.leaveReady
  split <;> rfl

/-- The platen enters a state with dwell count 0, leaving READY as R37 gives; nothing else changes. -/
theorem State.enterPlaten_eq (s : State) (p : PlatenState) (recipe : Option (Fin 8)) :
    s.enterPlaten p recipe = { s with
      rows := if s.regulator.platen = .ready then s.rows.map Row.clearPermit else s.rows
      regulator := { s.regulator with platen := p, platenRecipe := recipe, dwell := 0 }
      ports := { s.ports with
        press := if s.regulator.platen = .ready then s.ports.press.raise .platenNotReady else s.ports.press } } := by
  simp only [State.enterPlaten, State.leaveReady_eq]

/-- The rows after the platen has left READY, or not: only permits of CHARGED rows are cleared. -/
theorem State.leaveReady_row (s : State) (i : Fin 8) :
    (if s.regulator.platen = .ready then s.rows.map Row.clearPermit else s.rows).get i =
      { s.row i with
        permit := (s.row i).permit && !decide (s.regulator.platen = .ready ∧ (s.row i).state = .charged) } := by
  by_cases h : s.regulator.platen = .ready
  · simp [h, Row.clearPermit_eq, State.row]
  · simp [h, State.row]

/-! ### The release of a row (R6) -/

theorem Row.released_iff (r : Row) : r.released = true ↔ ∀ j, (r.cavities.get j).charge = .charged →
    (r.cavities.get j).cure = .reached ∨ (r.cavities.get j).cure = .timedOut := by
  simp only [Row.released, Vec.all_iff, Cavity.partBearing]
  refine forall_congr' fun j => ?_
  by_cases h : (r.cavities.get j).charge = .charged <;> simp [h]

/-! ### The end of a settle run (R88, R90, R93) -/

theorem State.endRun_none {s : State} (h : s.weigh.run = none) (e : RunEnd) : s.endRun e = s := by
  simp [State.endRun, h]

theorem State.endRun_tare {s : State} {run : SettleRun} (h : s.weigh.run = some run) (ht : run.ticket = none)
    (e : RunEnd) :
    s.endRun e = { s with weigh := s.weigh.completeTare s.settings.tareLimit e }.raise .charge .tareDone := by
  simp [State.endRun, h, ht]

theorem State.endRun_weigh {s : State} {run : SettleRun} {t : WeighTicket} (h : s.weigh.run = some run)
    (ht : run.ticket = some t) (e : RunEnd) :
    s.endRun e = { s with
      weigh := { s.weigh with
        run := none
        result := some (weighResultOf run t (s.weigh.tare.getD 0) s.settings.emptyThreshold s.clock e) } }.raise
      .charge .weighDone := by
  simp [State.endRun, h, ht]

/-! ### The receiver and the dispatch of a port (R158, R160) -/

/-- A frame is taken as a request exactly where the catalogue has its kind, the port's role may send it, and its payload
carries the request. -/
theorem decodeRequest_ok_iff {p : PortId} {kind : Byte} {payload : List Byte} {i : Instr} :
    decodeRequest p kind payload = .ok i ↔ ∃ sender, catalogue kind.toNat = some sender ∧ sender.allows p = true ∧
      requestOf p kind.toNat payload = some i := by
  cases hc : catalogue kind.toNat with
  | none => simp [decodeRequest, hc]
  | some sender =>
    cases ha : sender.allows p <;> cases hr : requestOf p kind.toNat payload <;> simp [decodeRequest, hc, ha, hr]

/-- While hunting, a byte is a hunting byte. -/
theorem State.receiveByte_hunting {s : State} {p : PortId} (b : Byte) (h : (s.port p).receiver = .hunting) :
    s.receiveByte p b = s.huntByte p b := by
  simp [State.receiveByte, State.gapExpired, h]

/-- In a frame, a byte that comes in time joins the bytes taken so far. -/
theorem State.receiveByte_inTime {s : State} {p : PortId} {bytes : List Byte} {at_ : Clock} (b : Byte)
    (h : (s.port p).receiver = .inFrame bytes at_) (hgap : elapsed s.clock at_ ≤ 10) :
    s.receiveByte p b = s.frameProgress p (bytes ++ [b]) := by
  have hlate : ¬Config.frameGap < elapsed s.clock at_ := Nat.not_lt.mpr hgap
  simp [State.receiveByte, State.gapExpired, h, hlate]

/-- In a frame, a byte that comes after too long a gap damages the frame and is a hunting byte. -/
theorem State.receiveByte_late {s : State} {p : PortId} {bytes : List Byte} {at_ : Clock} (b : Byte)
    (h : (s.port p).receiver = .inFrame bytes at_) (hgap : 10 < elapsed s.clock at_) :
    s.receiveByte p b = (s.damageFrame p).huntByte p b := by
  have hlate : Config.frameGap < elapsed s.clock at_ := hgap
  simp [State.receiveByte, State.gapExpired, h, hlate]

/-! ### One millisecond (R170; log 4) -/

@[simp] theorem State.tick_clock (s : State) : s.tick.clock = s.clock + 1 := rfl
@[simp] theorem State.tick_strap (s : State) : s.tick.pins.strap = s.pins.strapAhead.headD s.pins.strap := rfl
@[simp] theorem State.tick_strapAhead (s : State) : s.tick.pins.strapAhead = s.pins.strapAhead.tail := rfl
@[simp] theorem State.tick_mainsHold (s : State) : s.tick.pins.mainsHold = s.pins.mainsHold := rfl
@[simp] theorem State.tick_readyLine (s : State) : s.tick.pins.readyLine = s.pins.readyLine := rfl
@[simp] theorem State.tick_row (s : State) (i : Fin 8) : s.tick.row i = (s.row i).tick := by simp [State.tick, State.row]
@[simp] theorem State.tick_regulator (s : State) : s.tick.regulator = s.regulator := rfl
@[simp] theorem State.tick_weigh (s : State) : s.tick.weigh = s.weigh := rfl
@[simp] theorem State.tick_extraction (s : State) : s.tick.extraction = s.extraction := rfl
@[simp] theorem State.tick_ring (s : State) : s.tick.ring = s.ring := rfl
@[simp] theorem State.tick_recordQueue (s : State) : s.tick.recordQueue = s.recordQueue := rfl
@[simp] theorem State.tick_store (s : State) : s.tick.store = s.store := rfl
@[simp] theorem State.tick_ports (s : State) : s.tick.ports = s.ports := rfl
@[simp] theorem State.tick_settings (s : State) : s.tick.settings = s.settings := rfl
@[simp] theorem State.tick_runs (s : State) : s.tick.runs = s.runs := rfl

end Sys2Proof.Machine
end

