-- ==== Sys2Proof/Laws/PerInstr.lean ====
section
/-! SUPPORT. A law of every command as syntax: a request stands in the catalogue under its kind byte, the ports that may
send it are those the catalogue allows, and its payload fits a frame (R157, R160, R162). One lemma for each constructor. -/

namespace Sys2Proof.Laws.Catalogue

/-- A command with a kind byte stands in the catalogue; a port that may send it is one the catalogue allows; and a
well-formed one has a payload that a frame can carry. -/
def Statement (i : Instr) : Prop :=
  (∀ kind, i.kindByte = some kind → ∃ sender, catalogue kind.toNat = some sender ∧
    ∀ p, i.sentOn p = true → sender.allows p = true) ∧
  (i.wellFormed = true → i.payload.length ≤ 254)

/-- A command that is no request has no kind byte and no payload. -/
theorem of_no_kind {i : Instr} (hk : i.kindByte = none) (hp : i.payload = []) : Statement i :=
  ⟨fun _ h => by simp [hk] at h, fun _ => by simp [hp]⟩

/-- A request of one role. -/
theorem of_role {i : Instr} {kind : Byte} {role : PortId} (hk : i.kindByte = some kind)
    (hc : catalogue kind.toNat = some (.only role)) (hs : ∀ p, i.sentOn p = (p == role))
    (hp : i.wellFormed = true → i.payload.length ≤ 254) : Statement i :=
  ⟨fun k h => by
    obtain rfl : kind = k := by simpa [hk] using h
    exact ⟨_, hc, fun p h => by simp [hs] at h; simp [Sender.allows, h]⟩, hp⟩

/-- A request of every port. -/
theorem of_any {i : Instr} {kind : Byte} (hk : i.kindByte = some kind) (hc : catalogue kind.toNat = some .any)
    (hp : i.wellFormed = true → i.payload.length ≤ 254) : Statement i :=
  ⟨fun k h => by
    obtain rfl : kind = k := by simpa [hk] using h
    exact ⟨_, hc, fun _ _ => rfl⟩, hp⟩

theorem openCycle (shot : Nat) (recipe : Nat) : Statement (.openCycle shot recipe) :=
  of_role rfl rfl (fun _ => rfl) (fun _ => by simp [Instr.payload, be2])
theorem abortCycle (shot : Nat) : Statement (.abortCycle shot) :=
  of_role rfl rfl (fun _ => rfl) (fun _ => by simp [Instr.payload, be2])
theorem closePermit (shot : Nat) : Statement (.closePermit shot) :=
  of_role rfl rfl (fun _ => rfl) (fun _ => by simp [Instr.payload, be2])
theorem closed (shot : Nat) : Statement (.closed shot) :=
  of_role rfl rfl (fun _ => rfl) (fun _ => by simp [Instr.payload, be2])
theorem opened (shot : Nat) : Statement (.opened shot) :=
  of_role rfl rfl (fun _ => rfl) (fun _ => by simp [Instr.payload, be2])
theorem releaseQuery (shot : Nat) : Statement (.releaseQuery shot) :=
  of_role rfl rfl (fun _ => rfl) (fun _ => by simp [Instr.payload, be2])
theorem heatOn (recipe : Nat) : Statement (.heatOn recipe) :=
  of_role rfl rfl (fun _ => rfl) (fun _ => by simp [Instr.payload])
theorem heatOff : Statement .heatOff := of_role rfl rfl (fun _ => rfl) (fun _ => by simp [Instr.payload])
theorem tare : Statement .tare := of_role rfl rfl (fun _ => rfl) (fun _ => by simp [Instr.payload])
theorem weigh (shot : Nat) (cavity : Nat) : Statement (.weigh shot cavity) :=
  of_role rfl rfl (fun _ => rfl) (fun _ => by simp [Instr.payload, be2])
theorem weighCancel : Statement .weighCancel := of_role rfl rfl (fun _ => rfl) (fun _ => by simp [Instr.payload])
theorem weighResult : Statement .weighResult := of_role rfl rfl (fun _ => rfl) (fun _ => by simp [Instr.payload])
theorem admitCharge (shot : Nat) (cavity : Nat) : Statement (.admitCharge shot cavity) :=
  of_role rfl rfl (fun _ => rfl) (fun _ => by simp [Instr.payload, be2])
theorem admitOverride (shot : Nat) (cavity : Nat) : Statement (.admitOverride shot cavity) :=
  of_role rfl rfl (fun _ => rfl) (fun _ => by simp [Instr.payload, be2])
theorem extractGrant (shot : Nat) (cavity : Nat) : Statement (.extractGrant shot cavity) :=
  of_role rfl rfl (fun _ => rfl) (fun _ => by simp [Instr.payload, be2])
theorem extractDone (shot : Nat) (cavity : Nat) (outcome : Nat) : Statement (.extractDone shot cavity outcome) :=
  of_role rfl rfl (fun _ => rfl) (fun _ => by simp [Instr.payload, be2])
theorem clear (shot : Nat) (cavity : Nat) : Statement (.clear shot cavity) :=
  of_role rfl rfl (fun _ => rfl) (fun _ => by simp [Instr.payload, be2])
theorem settingsWrite (payload : List Byte) : Statement (.settingsWrite payload) :=
  of_role rfl rfl (fun _ => rfl) (fun h => by simpa [Instr.wellFormed, Instr.payload] using h)
theorem recipeWrite (payload : List Byte) : Statement (.recipeWrite payload) :=
  of_role rfl rfl (fun _ => rfl) (fun h => by simp [Instr.wellFormed] at h; simp [Instr.payload, h])
theorem lockStore : Statement .lockStore := of_role rfl rfl (fun _ => rfl) (fun _ => by simp [Instr.payload])
theorem unlockStore : Statement .unlockStore := of_role rfl rfl (fun _ => rfl) (fun _ => by simp [Instr.payload])
theorem runSet (recipe : Nat) (mode : Nat) (quantity : Nat) : Statement (.runSet recipe mode quantity) :=
  of_role rfl rfl (fun _ => rfl) (fun _ => by simp [Instr.payload, be2])
theorem cellClear : Statement .cellClear := of_role rfl rfl (fun _ => rfl) (fun _ => by simp [Instr.payload])
theorem status (port : PortId) : Statement (.status port) := of_any rfl rfl (fun _ => by simp [Instr.payload])
theorem poll (port : PortId) : Statement (.poll port) := of_any rfl rfl (fun _ => by simp [Instr.payload])
theorem readback (port : PortId) (item : Nat) : Statement (.readback port item) :=
  of_any rfl rfl (fun _ => by simp [Instr.payload])
theorem recipeRead (port : PortId) (slot : Nat) : Statement (.recipeRead port slot) :=
  of_any rfl rfl (fun _ => by simp [Instr.payload])
theorem runQuery (port : PortId) (recipe : Nat) : Statement (.runQuery port recipe) :=
  of_any rfl rfl (fun _ => by simp [Instr.payload])
theorem settingsRead (port : PortId) : Statement (.settingsRead port) :=
  of_any rfl rfl (fun _ => by simp [Instr.payload])
theorem cycleQuery (port : PortId) (shot : Nat) : Statement (.cycleQuery port shot) :=
  of_any rfl rfl (fun _ => by simp [Instr.payload, be2])
theorem frameReceived (port : PortId) (bytes : List Byte) : Statement (.frameReceived port bytes) := of_no_kind rfl rfl
theorem frameGapTimeout (port : PortId) : Statement (.frameGapTimeout port) := of_no_kind rfl rfl
theorem replySent (port : PortId) : Statement (.replySent port) := of_no_kind rfl rfl
theorem sampleArrival (channel : Nat) (value : BitVec 16) : Statement (.sampleArrival channel value) :=
  of_no_kind rfl rfl
theorem settleRunTimeout : Statement .settleRunTimeout := of_no_kind rfl rfl
theorem frameStart : Statement .frameStart := of_no_kind rfl rfl
theorem slotStart : Statement .slotStart := of_no_kind rfl rfl
theorem mainsHoldChange (level : Bool) : Statement (.mainsHoldChange level) := of_no_kind rfl rfl
theorem idleExpiry : Statement .idleExpiry := of_no_kind rfl rfl
theorem cureStep (row : Fin 8) : Statement (.cureStep row) := of_no_kind rfl rfl
theorem maxCureExpiry (row : Fin 8) : Statement (.maxCureExpiry row) := of_no_kind rfl rfl
theorem demouldExpiry (row : Fin 8) : Statement (.demouldExpiry row) := of_no_kind rfl rfl
theorem interlockChange (input : InterlockInput) (level : Bool) : Statement (.interlockChange input level) :=
  of_no_kind rfl rfl
theorem unitTimer : Statement .unitTimer := of_no_kind rfl rfl
theorem readyLineChange (level : Bool) : Statement (.readyLineChange level) := of_no_kind rfl rfl
theorem recipeWriteComplete (strap : Bool) : Statement (.recipeWriteComplete strap) := of_no_kind rfl rfl
theorem reset (strap : Bool) : Statement (.reset strap) := of_no_kind rfl rfl

end Sys2Proof.Laws.Catalogue
end

