-- ==== Sys2Proof/Tests/Slice0.lean ====
section
/-! SUPPORT. Tests: ill-formed operands, the worked cases of the spec (each named in its docstring), and for every statement
with hypotheses a witness: a state and operands that meet them. -/

namespace Sys2Proof.Tests

open Sys2Proof Sys2Proof.Machine

/-! ### The cell of chapter 11 -/

/-- The state a command leaves. -/
def after (c : Instr) (s : State) : State :=
  match exec c s with
  | .next t => t
  | .fault _ | .refused _ => s

/-- The code that the reply of a request's own row carries. -/
def code (s : State) : Option ResultCode := s.reply.map fun r => r.2.code

/-- A vector of a list that has its length. -/
abbrev vec {α : Type} {n : Nat} (l : List α) (h : l.length = n := by rfl) : Vec α n := ⟨l, h⟩

/-- The recipe of section 11.2, with the cure table of section 4.2 and the zone values of section 2.8. -/
def rec5 : Recipe :=
  { number := 512, name := .replicate 16 0x41#8, enabled := vec [true, true, false, false, false, false, false, false]
    topZone := vec [1, 4, 0, 0, 0, 0, 0, 0], bottomZone := vec [7, 10, 0, 0, 0, 0, 0, 0], offset := .replicate 8 0
    nominal := .replicate 8 8500, tolLow := .replicate 8 100, tolHigh := .replicate 8 150
    setpoint := vec [0, 1500, 0, 0, 1500, 0, 0, 1500, 0, 0, 1500, 0]
    fallbackDuty := vec [0, 35, 0, 0, 35, 0, 0, 35, 0, 0, 35, 0]
    maxDuty := vec [0, 90, 0, 0, 90, 0, 0, 90, 0, 0, 90, 0]
    kp := 40, ki := 8, cutbackBand := 60, base := 1200, width := 100
    rate := vec [16, 40, 96, 192, 340, 560, 860, 1240, 1700, 2200, 2700, 3100, 3300, 3200, 2899, 2600]
    cureTarget := 180, targetMin := 150, targetMax := 300, cureAdjust := 250, maxCure := 360, scorchTemp := 1600
    scorchAllowance := 10, blindAllowance := 5, traceInterval := 12, maxAttempts := 3, overrideAllowed := 0
    settleBand := 15, settleCount := 4, settleTimeout := 3000, demouldLimit := 45 }

/-- A zone at 1500 since the given moment. -/
def hotZone (at_ : Clock) (setpoint duty : Nat) : Zone :=
  { Zone.initial with reading := some 1500, arrival := some at_, sensor := .ok, setpoint := setpoint, duty := duty }

/-- The READY cell of section 11.3 before its first shot, at the moment `now`, with the tare at 1840. -/
def cell (now : Clock) : State :=
  { State.reset with
    clock := now
    regulator := { State.reset.regulator with
      zones := rec5.setpoint.map fun sp => hotZone now sp (if sp = 0 then 0 else 40)
      platen := .ready, platenRecipe := some 5, dwell := 3, idleTimer := some 10000 }
    firing := { State.reset.firing with slot := some 99, limit := 3 }
    weigh := { State.reset.weigh with tare := some 1840, tareOutcome := some (.tared, some 1840) }
    extraction := { State.reset.extraction with inputs := ⟨true, true, true, true⟩ }
    store := { State.reset.store with
      slots := State.reset.store.slots.set 5
        { image := .written rec5 (Config.recipeCheck rec5.toBytes), validity := .valid } }
    settings := { Settings.default with supplyLimit := 3, holdLimit := 1 }
    runs := State.reset.runs.set 5 { mode := .counted, remaining := 4, reserved := 0 } }

/-- An enabled cavity slot that waits for its charge. -/
def awaiting : Cavity := { Cavity.freed with charge := .awaitCharge }

/-- A charged cavity slot. -/
def charged (net target : Nat) : Cavity :=
  { Cavity.freed with
    charge := .charged, attempts := 1, targetAdj := some target
    chargeRec := some { net := net, cls := .accept, override := false, attempts := 1, admitTime := 190000 } }

/-- A cavity slot in the closed press. -/
def curing (net target acc : Nat) : Cavity :=
  { charged net target with cure := .curing, acc := acc, tool := .inTool }

/-- A cavity slot after its target was reached, with the tool status given. -/
def cured (net target at_ : Nat) (tool : ToolStatus) : Cavity :=
  { charged net target with cure := .reached, acc := 53952, reached := some at_, peak := some 1500, tool := tool }

/-- A row on recipe slot 5 with two enabled cavities. -/
def rowOf (state : RowState) (shot rank : Nat) (c₀ c₁ : Cavity) : Row :=
  { Row.freed with
    state := state, shot := some shot, recipe := some 5, rank := some rank, timeOpened := some 181000
    cavities := vec [c₀, c₁, .freed, .freed, .freed, .freed, .freed, .freed] }

/-- A row that the press closed on at 200 000. -/
def closedRow (state : RowState) (shot rank : Nat) (c₀ c₁ : Cavity) : Row :=
  { rowOf state shot rank c₀ c₁ with timeClosed := some 200000 }

/-- The cell with row 0 in use, its cavities counted in the reservations and in the uncleared count. -/
def cellWith (now : Clock) (row : Row) (reserved uncleared : Nat) : State :=
  { cell now with
    regulator := { (cell now).regulator with idleTimer := none }
    rows := State.reset.rows.set 0 row
    runs := State.reset.runs.set 5 { mode := .counted, remaining := 4, reserved := reserved }
    extraction := { (cell now).extraction with uncleared := uncleared } }

/-- Shot 501 open, its cavities waiting for their charges. -/
def opening : State := cellWith 182000 (rowOf .open_ 501 1 awaiting awaiting) 2 0

/-- Shot 501 charged. -/
def chargedCell : State := cellWith 199000 (rowOf .charged 501 1 (charged 8540 190) (charged 8614 208)) 2 0

/-- Shot 501 in the press, at cure step 254, with shot 502 charged and permitted behind it. -/
def curingCell : State :=
  let s := cellWith 454000
    { closedRow .curing 501 1 (curing 8540 190 48576) (curing 8614 208 48576) with
      rowTimer := some 106000, stepTimer := some 0, elapsed := 253 } 4 2
  let next := { rowOf .charged 502 2 (charged 8500 180) (charged 8520 185) with permit := true }
  { s with rows := s.rows.set 1 next }

/-- Shot 501 releasable. -/
def releasableCell : State :=
  cellWith 481400
    { closedRow .releasable 501 1 (cured 8540 190 254 .inTool) (cured 8614 208 278 .inTool) with
      stepTimer := some 600, elapsed := 281 } 2 2

/-- A part record. -/
def oldRecord : PartRecord :=
  { shot := 500, cavity := 0, recipe := 5, verdict := .good, net := 8500, attempts := 1, override := false,
    targetAdj := 180, reached := some 240, finalCure := 200, peak := some 1500, scorch := 0, blind := 0,
    timeClosed := 1000, timePressOpened := some 2000, outcomeTime := 3000, outcome := .removed, notes := [],
    notesDropped := 0, trace := [1505, 1593, 1612, 1480, 1490], traceInterval := 12 }

/-- Shot 501 opened with the ring at 63 records: cavity 0 granted, cavity 1 in the tool. -/
def openedCell : State :=
  let s := cellWith 486000
    { closedRow .opened 501 1 (cured 8540 190 254 .granted) (cured 8614 208 278 .inTool) with
      timePressOpened := some 481400, rowTimer := some 40400, elapsed := 281 } 2 2
  { s with
    ring := List.replicate 63 oldRecord
    extraction := { s.extraction with grant := some { row := 0, shot := 501, cavity := 0 } } }

/-! ### Ill-formed operands -/

/-- Each check of `wellFormed` refuses an operand one above its field (R26, R157, R162). -/
theorem test_ill_formed_refused :
    [Instr.openCycle 65536 0, .openCycle 1 256, .abortCycle 65536, .closePermit 65536, .closed 65536, .opened 65536,
      .releaseQuery 65536, .heatOn 256, .weigh 65536 0, .weigh 1 256, .admitCharge 65536 0, .admitCharge 1 256,
      .admitOverride 65536 0, .admitOverride 1 256, .extractGrant 65536 0, .extractGrant 1 256, .clear 65536 0,
      .clear 1 256].all (fun i => !i.wellFormed) = true ∧
    [Instr.extractDone 65536 0 1, .extractDone 1 256 1, .extractDone 1 0 256, .settingsWrite (List.replicate 255 0),
      .recipeWrite (List.replicate 213 0), .recipeWrite (List.replicate 215 0), .runSet 256 1 1, .runSet 0 256 1,
      .runSet 0 1 65536, .readback .press 256, .recipeRead .press 256, .runQuery .press 256, .cycleQuery .press 65536,
      .sampleArrival 16 0].all (fun i => !i.wellFormed) = true := by decide +kernel

/-- The largest operands fit. -/
theorem test_well_formed_accepted :
    [Instr.openCycle 65535 255, .extractDone 65535 255 255, .settingsWrite (List.replicate 254 0),
      .recipeWrite (List.replicate 214 0), .runSet 255 255 65535, .cycleQuery .press 65535, .sampleArrival 15 0].all
      (fun i => i.wellFormed) = true := by decide +kernel

/-! ### Frames (R157, R160, R162) -/

/-- The frame of OPEN_CYCLE(501, 5): sync, length 4, kind, shot, recipe, check (R157). -/
theorem test_open_cycle_frame :
    frameBytes 0x10#8 [0x01#8, 0xF5#8, 0x05#8] = [0x7E#8, 0x04#8, 0x10#8, 0x01#8, 0xF5#8, 0x05#8, 0x08#8, 0x0C#8] ∧
    decodeRequest .press 0x10#8 [0x01#8, 0xF5#8, 0x05#8] = .ok (.openCycle 501 5) := by decide +kernel

/-- The standard check value of CRC-16 with start 0xFFFF and polynomial 0x1021, over the digits 1 to 9. -/
theorem test_crc_check_value :
    crc16 [0x31#8, 0x32#8, 0x33#8, 0x34#8, 0x35#8, 0x36#8, 0x37#8, 0x38#8, 0x39#8] = 0x29B1#16 := by decide +kernel

/-- One request of each port, its bytes written out from R162's catalogue. -/
theorem test_requests_decode :
    decodeRequest .charge 0x21#8 [0x01#8, 0xF5#8, 0x01#8] = .ok (.weigh 501 1) ∧
    decodeRequest .extract 0x31#8 [0x01#8, 0xF5#8, 0x00#8, 0x02#8] = .ok (.extractDone 501 0 2) ∧
    decodeRequest .records 0x44#8 [0x05#8, 0x01#8, 0x00#8, 0x04#8] = .ok (.runSet 5 1 4) ∧
    decodeRequest .extract 0x07#8 [0x01#8, 0xF5#8] = .ok (.cycleQuery .extract 501) := by decide

/-- R160's order: UNKNOWN_REQUEST, then REFUSED_ROLE, then MALFORMED. -/
theorem test_dispatch_order :
    decodeRequest .press 0x18#8 [] = .error .unknownRequest ∧
    decodeRequest .charge 0x10#8 [] = .error .refusedRole ∧
    decodeRequest .press 0x10#8 [0x01#8, 0xF5#8] = .error .malformed := by decide

/-- No row of the opcode table has bits, so no word spells a command. -/
theorem test_no_table_word : decodeTableWord 8 0x10 = none := rfl

/-! ### Recipes (R145 to R148) -/

/-- The recipe of chapter 11 passes validation. -/
theorem test_rec5_passes : rec5.firstFailure = none := by decide

/-- The bytes of a recipe carry it, and number 213 (R147). -/
theorem test_recipe_bytes : rec5.toBytes.length = 213 ∧ Recipe.ofBytes rec5.toBytes = rec5 := by decide +kernel

/-- Validation names the first failing field and index (R148): with equal zones in the enabled cavities 0 and 1, BOTTOM_ZONE
(field 5) of cavity 0; log 19 says why cavity 0. -/
theorem test_equal_zones_refused : ({ rec5 with bottomZone := rec5.topZone } : Recipe).firstFailure = some (5, 0) := by
  decide

/-- The order of R148: the last field of the first pass comes before the second pass; in the second, equal zones before a
SETPOINT of 0, the top zone's before the bottom zone's, that before FALLBACK_DUTY, and CURE_TARGET last. -/
theorem test_first_failure_order :
    let cold := rec5.setpoint.map fun _ => 0
    let late := { rec5 with fallbackDuty := .replicate 12 91, maxDuty := .replicate 12 90, cureTarget := 301 }
    ({ rec5 with bottomZone := rec5.topZone, demouldLimit := 0 } : Recipe).firstFailure = some (33, 0) ∧
    ({ rec5 with bottomZone := rec5.bottomZone.set 1 4, setpoint := cold } : Recipe).firstFailure = some (5, 1) ∧
    ({ late with setpoint := cold } : Recipe).firstFailure = some (10, 1) ∧
    ({ late with setpoint := rec5.setpoint.set 7 0 } : Recipe).firstFailure = some (10, 7) ∧
    late.firstFailure = some (11, 0) ∧ ({ rec5 with cureTarget := 149 } : Recipe).firstFailure = some (19, 0) := by decide

/-! ### The worked cases of sections 2.8, 4.11, 4.12, 8.7 -/

/-- A zone of section 2.8: SETPOINT 1500, the reading and the integral given. -/
def dutyZone (reading : Int) (integral : Nat) : Zone :=
  { Zone.initial with reading := some reading, arrival := some 0, sensor := .ok, setpoint := 1500, integral := integral }

/-- The duty and integral of section 2.8's zone. -/
def dutyCase (r : Recipe) (reading : Int) (integral : Nat) : Nat × Nat :=
  (((dutyZone reading integral).computeDuty r 1).duty, ((dutyZone reading integral).computeDuty r 1).integral)

/-- The rows of section 2.8's table. -/
theorem test_duty_cases :
    dutyCase rec5 1467 4200 = (57, 4464) ∧ dutyCase rec5 300 0 = (90, 0) ∧ dutyCase rec5 1540 4464 = (25, 4144) ∧
    dutyCase rec5 1555 1000 = (0, 1000) ∧ dutyCase rec5 1570 3100 = (0, 3100) ∧
    dutyCase { rec5 with kp := 0 } 1550 100 = (0, 100) ∧
    dutyCase { rec5 with kp := 0, maxDuty := .replicate 12 100 } 1495 9990 = (100, 10000) := by decide

/-- The factors of section 4.11, and the two steps of section 4.12. -/
theorem test_rate_factors :
    [1490, 1467, 1199, 1200, 2545, 2699, 2700, 3000, 1505].map (rateFactor rec5) =
      [182, 160, 0, 16, 3065, 2603, 2600, 2600, 199] := by decide

/-- Section 8.7: the trace of record A takes 8 bytes, so that with two notes it has 56. -/
theorem test_record_bytes :
    traceBytes oldRecord.trace = [0x05#8, 0xE1#8, 0x58#8, 0x13#8, 0x80#8, 0x05#8, 0xC8#8, 0x0A#8] ∧
    ({ oldRecord with notes := [⟨.blind, 1, 1⟩, ⟨.noGrant, 1, 2⟩] } : PartRecord).bytes.length = 56 := by decide

/-! ### The commands, on the cell of chapter 11 (its section 11.3 unless said otherwise) -/

/-- 181 000: both cavities are enabled, rank 1, reserved 2, the idle timer stops, CYCLE_OPENED. -/
theorem test_open_cycle :
    let t := after (.openCycle 501 5) (cell 181000)
    t.reply = some (.press, ⟨.done, [.byte 0, .byte 2]⟩) ∧ (t.row 0).rank = some 1 ∧ (t.row 0).state = .open_ ∧
    (t.runs.get 5).reserved = 2 ∧ t.regulator.idleTimer = none ∧ t.ports.charge.notices = [.cycleOpened] := by decide

/-- 513 000 (11.7): with remaining 3 and reserved 2, cavity 0 alone is enabled. -/
theorem test_open_cycle_partial :
    let t := after (.openCycle 503 5) { opening with runs := State.reset.runs.set 5 ⟨.counted, 3, 2⟩ }
    t.reply = some (.press, ⟨.done, [.byte 1, .byte 1]⟩) ∧ (t.row 1).rank = some 2 ∧ (t.runs.get 5).reserved = 3 ∧
    (t.cavity 1 0).charge = .awaitCharge ∧ (t.cavity 1 1).charge = .empty := by decide

/-- R13: an abort releases both reservations and frees the row; the idle timer starts with the table empty (R23). -/
theorem test_abort_cycle :
    let t := after (.abortCycle 501) opening
    code t = some .done ∧ (t.row 0).state = .free ∧ (t.runs.get 5).reserved = 0 ∧ t.regulator.idleTimer = some 182000 := by
  decide

/-- 199 000: granted. -/
theorem test_close_permit :
    code (after (.closePermit 501) chargedCell) = some .granted ∧
    ((after (.closePermit 501) chargedCell).row 0).permit = true := by decide

/-- 493 000 (11.7): with a cavity in the tool, denied with TOOL_NOT_CLEAR. -/
theorem test_close_permit_denied :
    (after (.closePermit 502) curingCell).reply = some (.press, ⟨.denied, [.byte 2]⟩) := by decide

/-- 200 000: both cavities are IN_TOOL and CURING, 360 s on the row timer, the first step in 1 s; without a permit,
UNPERMITTED_CLOSE at offset 0 (R17). -/
theorem test_closed :
    let t := after (.closed 501) chargedCell
    (t.row 0).state = .curing ∧ (t.row 0).rowTimer = some 360000 ∧ (t.row 0).stepTimer = some 1000 ∧
    t.extraction.uncleared = 2 ∧ (t.cavity 0 1).tool = .inTool ∧ (t.cavity 0 1).cure = .curing ∧
    (t.cavity 0 0).notes = [⟨.unpermittedClose, 1, 0⟩] := by decide

/-- 481 400 (11.6): 45 s on the row timer, the step timer stops, PRESS_OPENED. -/
theorem test_opened :
    let t := after (.opened 501) releasableCell
    (t.row 0).state = .opened ∧ (t.row 0).rowTimer = some 45000 ∧ (t.row 0).stepTimer = none ∧
    (t.row 0).elapsed = 281 ∧ t.ports.extract.notices = [.pressOpened] := by decide

/-- R19 at step 253: cavity 0 has 48576 of 48640, 99 percent; cavity 1 has 48576 of 53248, 91 percent. -/
theorem test_release_query :
    (after (.releaseQuery 501) curingCell).reply = some (.press, ⟨.done, [.byte 3, .byte 91, .word 253]⟩) := by decide

/-- 10 000: WARMING on slot 5, dwell 0, the idle timer starts. -/
theorem test_heat_on :
    let t := after (.heatOn 5) { cell 10000 with regulator := State.reset.regulator }
    code t = some .done ∧ t.regulator.platen = .warming ∧ t.regulator.platenRecipe = some 5 ∧ t.regulator.dwell = 0 ∧
    t.regulator.idleTimer = some 10000 := by decide

/-- R33, R41: OFF, every duty 0, PLATEN_NOT_READY since the platen was READY (R37). -/
theorem test_heat_off :
    let t := after .heatOff (cell 181000)
    t.regulator.platen = .off ∧ t.regulator.platenRecipe = none ∧ (t.regulator.zones.get 1).duty = 0 ∧
    t.ports.press.notices = [.platenNotReady] := by decide

/-- R89: a tare run with the settings' parameters. -/
theorem test_tare :
    let t := after .tare opening
    code t = some .started ∧ (t.weigh.run.map fun r => (r.band, r.settleCount, r.timeout)) = some (20, 8, 3000) := by
  decide

/-- R92: the attempt is counted, and the run takes the cavity's nominal and tolerances. -/
theorem test_weigh :
    let t := after (.weigh 501 1) opening
    code t = some .started ∧ (t.cavity 0 1).attempts = 1 ∧
    (t.weigh.run.bind fun r => r.ticket.map fun k => (k.nominal, k.tolLow, k.tolHigh, k.attempt)) =
      some (8500, 100, 150, 1) := by decide

/-- The weigh run of section 5.8 after its readings 9950, 10210, 10221 and 10198: the last three stay in the band of
10210. -/
def settling : State :=
  [9950#16, 10210#16, 10221#16, 10198#16].foldl (fun s v => after (.sampleArrival 12 v) s) (after (.weigh 501 1) opening)

/-- Section 5.8: 10214 settles the run at the mean of 10210, 10221, 10198 and 10214, which is 10210; net 8370, LIGHT. -/
theorem test_pan_sample :
    ((after (.sampleArrival 12 10214#16) settling).weigh.result.map fun r => (r.gross, r.net, r.cls, r.attempt, r.samples)) =
      some (some 10210, some 8370, .light, 1, 5) := by decide

/-- R94: the cancelled run leaves a result without a weight. -/
theorem test_weigh_cancel :
    let t := after .weighCancel settling
    code t = some .done ∧ t.weigh.run = none ∧ (t.weigh.result.map fun r => (r.cls, r.net)) = some (.cancelled, none) := by
  decide

/-- R88: the timeout ends the run UNSTABLE, with WEIGH_DONE. -/
theorem test_settle_run_timeout :
    let t := after .settleRunTimeout settling
    (t.weigh.result.map WeighResult.cls) = some .unstable ∧ t.ports.charge.notices = [.weighDone] := by decide

/-- R96: without a result, absent; a weigh run in flight has code 2. -/
theorem test_weigh_result : code (after .weighResult settling) = some .done := by decide

/-- The opening cell with a weigh result for a cavity of shot 501. -/
def weighed (cavity : Fin 8) (net : Nat) (cls : WeighClass) : State :=
  { opening with weigh := { opening.weigh with
      result := some
        { shot := 501, cavity := cavity, row := 0, gross := some (net + 1840), net := some net, cls := cls, attempt := 1,
          samples := 5, time := 181500, admitted := false, orphaned := false } } }

/-- 8540 g/10 above NOMINAL 8500 by 40: TARGET_ADJ 180 + 10 = 190; 8614 gives 208. -/
theorem test_admit :
    (after (.admitCharge 501 0) (weighed 0 8540 .accept)).reply = some (.charge, ⟨.done, [.word 190]⟩) ∧
    (after (.admitCharge 501 1) (weighed 1 8614 .accept)).reply = some (.charge, ⟨.done, [.word 208]⟩) := by decide

/-- Section 4.11: the other targets, the last two clamped to 150 and 300. -/
theorem test_admit_targets :
    [8620, 8380, 8497, 8510, 9500, 7500].map (fun net =>
        ((after (.admitCharge 501 0) (weighed 0 net .accept)).cavity 0 0).targetAdj) =
      [some 210, some 150, some 180, some 182, some 300, some 150] := by decide

/-- Section 5.8: a LIGHT result is not admitted; nor with an override where OVERRIDE_ALLOWED is clear. -/
theorem test_admit_override :
    code (after (.admitCharge 501 1) (weighed 1 8370 .light)) = some .notAccepted ∧
    code (after (.admitOverride 501 1) (weighed 1 8370 .light)) = some .overrideForbidden := by decide

/-- 487 000 (11.7): with no grant held, GRANTED. -/
theorem test_extract_grant :
    let t := after (.extractGrant 501 1) { openedCell with extraction := { openedCell.extraction with grant := none } }
    code t = some .granted ∧ (t.cavity 0 1).tool = .granted := by decide

/-- 486 000 (11.7): GOOD; remaining 4 to 3; the ring goes from 63 to 64; uncleared 1; the record as section 11.7 gives it. -/
theorem test_extract_done :
    let t := after (.extractDone 501 0 1) openedCell
    code t = some .done ∧ (t.runs.get 5).remaining = 3 ∧ (t.runs.get 5).reserved = 1 ∧ t.ring.length = 64 ∧
    t.extraction.uncleared = 1 ∧ t.extraction.grant = none ∧ (t.cavity 0 0).record = .recorded ∧
    (t.ring.getLast?.map fun r => (r.net, r.targetAdj, r.reached, r.finalCure, r.verdict)) =
      some (8540, 190, some 254, 210, .good) := by decide

/-- The cell of 11.7 after the stuck report of 492 000: ring 64, cavity 1 of shot 501 queued. -/
def fullCell : State := after (.extractDone 501 1 2) (after (.extractDone 501 0 1) openedCell)

/-- 492 000 (11.7): STUCK; the ring is full, so the cavity is QUEUED; uncleared still 1. -/
theorem test_extract_stuck :
    fullCell.recordQueue = [(0, 1)] ∧ (fullCell.cavity 0 1).record = .queued ∧ fullCell.extraction.uncleared = 1 ∧
    (fullCell.cavity 0 1).verdict = some .stuck := by decide

/-- 510 000 (11.7): CLEARED, uncleared 0, TOOL_CLEAR; the row stays OPENED, since the cavity is not recorded. -/
theorem test_clear :
    let t := after (.clear 501 1) fullCell
    code t = some .done ∧ (t.cavity 0 1).tool = .cleared ∧ t.extraction.uncleared = 0 ∧
    t.ports.press.notices = [.toolClear] ∧ (t.row 0).state = .opened := by decide

/-- 536 000 (11.8): the oldest record leaves, the queued one enters, and row 0 is freed; the ring still holds 64. -/
theorem test_record_sent :
    let t := (after (.clear 501 1) fullCell).recordSent
    t.ring.length = 64 ∧ t.recordQueue = [] ∧ (t.row 0).state = .free := by decide

/-- R168: SUPPLY_LIMIT 13 is clamped to 12 and listed; FIRING_RANK during production would be ignored. -/
theorem test_settings_write :
    let t := after (.settingsWrite [0x01#8, 0x00#8, 0x0D#8]) opening
    t.reply = some (.records, ⟨.done, [.byte 0, .byte 1, .byte 1]⟩) ∧ t.settings.supplyLimit = 12 := by decide

/-- R168: INTERLOCK_PATTERN is protected while a row is in use, and IDLE_LIMIT 60 is applied. -/
theorem test_settings_write_ignored :
    let t := after (.settingsWrite [0x0F#8, 0xFF#8, 0xFF#8, 0x08#8, 0x00#8, 0x3C#8]) opening
    t.reply = some (.records, ⟨.done, [.byte 1, .byte 15, .byte 0]⟩) ∧ t.settings.interlockPattern = 0x8000#16 ∧
    t.settings.idleLimit = 60 := by decide

/-- R147, R149: the write is in flight from now. -/
theorem test_recipe_write :
    let t := after (.recipeWrite (0x02#8 :: rec5.toBytes)) (cell 181000)
    code t = some .started ∧ (t.store.write.map fun w => (w.slot, w.accepted)) = some (2, 181000) := by decide +kernel

/-- R147: the slot of a row in use is IN_USE. -/
theorem test_recipe_write_in_use :
    code (after (.recipeWrite (0x05#8 :: rec5.toBytes)) opening) = some .inUse := by decide +kernel

/-- R150: the slot is VALID with the recipe, and STORE_DONE is raised; the strap locks the store (R152). -/
theorem test_recipe_write_complete :
    let t := after (.recipeWriteComplete true)
      { cell 181040 with store := { (cell 181040).store with write := some ⟨2, 181000, rec5⟩ } }
    (t.store.slots.get 2).validity = .valid ∧ t.recipeAt 2 = rec5 ∧ t.store.write = none ∧ t.store.lock = .locked ∧
    t.ports.records.notices = [.storeDone] := by decide

/-- R152: LOCK_STORE locks; UNLOCK_STORE is refused while a row is in use. -/
theorem test_store_lock :
    (after .lockStore opening).store.lock = .locked ∧ code (after .unlockStore opening) = some .inUse ∧
    (after .unlockStore (after .lockStore (cell 181000))).store.lock = .unlocked := by decide

/-- 10 000: RUN_SET(5, COUNTED, 4). -/
theorem test_run_set :
    let t := after (.runSet 5 1 4) State.reset
    code t = some .done ∧ t.runs.get 5 = ⟨.counted, 4, 0⟩ := by decide

/-- R24: with 63 records in the ring and 2 pending cavities, RING_FULL. -/
theorem test_cell_clear_ring_full : code (after .cellClear openedCell) = some .ringFull := by decide

/-- R25: with a place for each, both cavities are recorded CLEARED and the table is FREE. -/
theorem test_cell_clear :
    let t := after .cellClear { openedCell with ring := List.replicate 62 oldRecord }
    code t = some .done ∧ (t.row 0).state = .free ∧ t.ring.length = 64 ∧ t.extraction.uncleared = 0 ∧
    (t.runs.get 5).reserved = 0 ∧ t.regulator.idleTimer = some 486000 := by decide +kernel

/-- R166: 183 bytes after the result code. -/
theorem test_status :
    ((after (.status .press) openedCell).reply.map fun r => r.2.bytes.length) = some 184 := by decide +kernel

/-- R165: the pending kinds by their codes, and the line is released. -/
theorem test_poll :
    let t := after (.poll .press) (((cell 181000).raise .press .toolClear).raise .press .releasable)
    t.reply = some (.press, ⟨.done, [.byte 2, .byte 1, .byte 10]⟩) ∧ t.ports.press.attention = false := by decide

/-- R139: item 28 is none; the 17th id is DROPPED and sets the warning flag. -/
theorem test_readback :
    code (after (.readback .charge 28) opening) = some .malformed ∧
    (let t := after (.readback .charge 41)
      { opening with streamer := { opening.streamer with readback := List.replicate 16 43 } }
    code t = some .dropped ∧ t.streamer.warning = true) := by decide

/-- R153: the whole recipe from an unlocked store, 213 bytes after slot, validity and form. -/
theorem test_recipe_read :
    ((after (.recipeRead .press 5) opening).reply.map fun r => r.2.bytes.length) = some 217 ∧
    code (after (.recipeRead .press 8) opening) = some .malformed := by decide +kernel

/-- R155: MALFORMED for a slot above 7. -/
theorem test_run_query :
    code (after (.runQuery .press 5) opening) = some .done ∧ code (after (.runQuery .press 8) opening) = some .malformed := by
  decide

/-- R167, R169: 18 fields of 2 bytes and 2 of 12, after the result code. -/
theorem test_settings_read :
    ((after (.settingsRead .press) State.reset).reply.map fun r => r.2.bytes.length) = some 61 := by decide

/-- R21: six rows FREE, the running recipe 5, the two rows in age order. -/
theorem test_cycle_query :
    (after (.cycleQuery .press 0) curingCell).reply =
      some (.press, ⟨.done, [.byte 6, .flag true, .byte 5, .byte 2, .byte 0, .word 501, .byte 3, .byte 1, .word 502,
        .byte 2]⟩) ∧
    code (after (.cycleQuery .press 999) curingCell) = some .unknownShot := by decide

/-- R157 to R161: the frame of LOCK_STORE on the records port locks the store and is answered DONE. -/
theorem test_frame_received :
    let t := after (.frameReceived .records (frameBytes 0x42#8 [])) State.reset
    t.store.lock = .locked ∧ (t.ports.records.waiting.map WaitingFrame.reply) = some (frameBytes 0x42#8 [0#8]) := by
  decide +kernel

/-- R158, R159: an unfinished frame is given up after the gap; a sent reply ends the waiting frame. -/
theorem test_frame_gap_and_reply :
    let started := after (.frameReceived .press [0x7E#8, 0x04#8]) State.reset
    (after (.frameGapTimeout .press) started).ports.press.frameErrors = 1 ∧
    (after (.replySent .records) (after (.frameReceived .records (frameBytes 0x42#8 [])) State.reset)).ports.records.waiting =
      none := by decide

/-- 300 500 (11.4): 0x7FFF on channel 7 makes the zone OPEN, keeps its reading, and sets the fault flag. -/
theorem test_zone_sample :
    let t := after (.sampleArrival 7 0x7FFF#16) curingCell
    (t.regulator.zones.get 7).sensor = .open_ ∧ (t.regulator.zones.get 7).reading = some 1500 ∧ t.streamer.fault = true := by
  decide

/-- 302 000 (11.4): the lost zone 7 takes its FALLBACK_DUTY, the platen leaves READY with PLATEN_NOT_READY and the warning
flag, and the permit of the CHARGED row is cleared. -/
theorem test_frame_start_leaves_ready :
    let t := after .frameStart (after (.sampleArrival 7 0x7FFF#16) curingCell)
    (t.regulator.zones.get 7).duty = 35 ∧ t.regulator.platen = .warming ∧ t.regulator.dwell = 0 ∧
    t.streamer.warning = true ∧ t.ports.press.notices = [.platenNotReady] ∧ (t.row 1).permit = false := by decide

/-- The frame of section 11.5 at its slot `k`: duties 40 on zones 1, 4, 7 and 10, with the owed counts given. -/
def frameAt (k : Nat) (hold : Bool) (owed₁ owed₄ owed₇ owed₁₀ : Nat) : State :=
  let zone := fun (start owed : Nat) =>
    ({ frameDuty := 40, windowStart := start, owed := owed, deferred := false, output := false } : FiringZone)
  let none_ := FiringZone.initial
  { curingCell with
    clock := 342000
    pins := { curingCell.pins with mainsHold := hold }
    firing := { curingCell.firing with
      slot := some k
      zones := vec [none_, zone 8 owed₁, none_, none_, zone 32 owed₄, none_, none_, zone 56 owed₇, none_, none_,
        zone 80 owed₁₀, none_] } }

/-- The outputs that are on. -/
def outputs (s : State) : List (Fin 12) := (List.finRange 12).filter fun z => (s.firing.zones.get z).output

/-- 342 000 (11.5): zone 7 is short 10 slots; cavity 0 over it is noted at offset 142, cavity 1 is not. -/
theorem test_frame_start_shortfall :
    let t := after .frameStart (frameAt 99 false 0 0 10 0)
    (t.regulator.zones.get 7).shortfall = 10 ∧ t.firing.cellShortfall = 10 ∧ t.streamer.warning = true ∧
    (t.cavity 0 0).notes = [⟨.supplyShortfall, 1, 142⟩] ∧ (t.cavity 0 1).notes = [] := by decide

/-- Slot 8 grants 1 and 10; slot 32 on hold grants 1 and defers 4 (11.5). -/
theorem test_slot_start :
    outputs (after .slotStart (frameAt 7 false 40 40 40 32)) = [1, 10] ∧
    outputs (after .slotStart (frameAt 31 true 16 40 40 20)) = [1] ∧
    ((after .slotStart (frameAt 31 true 16 40 40 20)).firing.zones.get 4).deferred = true := by decide

/-- The level inputs take their levels (R54, R133). -/
theorem test_level_inputs :
    (after (.mainsHoldChange true) opening).pins.mainsHold = true ∧
    (after (.readyLineChange true) opening).pins.readyLine = true := by decide

/-- R39: STANDBY keeps the recipe; leaving READY raises PLATEN_NOT_READY (R37). -/
theorem test_idle_expiry :
    let t := after .idleExpiry (cell 1810000)
    t.regulator.platen = .standby ∧ t.regulator.platenRecipe = some 5 ∧ t.regulator.idleTimer = none ∧
    t.ports.press.notices = [.platenNotReady] := by decide

/-- Step 254 at 454 000 (11.6): ACC 48768 passes 48640, so cavity 0 is REACHED at 254; cavity 1 goes on CURING. -/
theorem test_cure_step :
    let t := after (.cureStep 0) curingCell
    (t.cavity 0 0).acc = 48768 ∧ (t.cavity 0 0).cure = .reached ∧ (t.cavity 0 0).reached = some 254 ∧
    (t.cavity 0 1).cure = .curing ∧ (t.row 0).elapsed = 254 ∧ (t.row 0).stepTimer = some 1000 := by decide

/-- 301 000 (11.4): with zone 7 lost, cavity 0 goes on with zone 1 and is noted ZONE_FAULT_BOTTOM. -/
theorem test_cure_step_lost_zone :
    let t := after (.cureStep 0) (after (.sampleArrival 7 0x7FFF#16) curingCell)
    (t.cavity 0 0).acc = 48768 ∧ (t.cavity 0 0).notes = [⟨.zoneFaultBottom, 1, 254⟩] ∧ (t.cavity 0 1).notes = [] := by
  decide

/-- R8: the CURING cavities become TIMED_OUT and the row RELEASABLE. -/
theorem test_max_cure_expiry :
    let t := after (.maxCureExpiry 0) curingCell
    (t.row 0).state = .releasable ∧ (t.cavity 0 0).cure = .timedOut ∧ t.ports.press.notices = [.releasable] := by decide

/-- R113: the IN_TOOL cavity is ABANDONED, the GRANTED one is not; DEMOULD_EXPIRED. -/
theorem test_demould_expiry :
    let t := after (.demouldExpiry 0) openedCell
    (t.cavity 0 1).tool = .abandoned ∧ (t.cavity 0 1).verdict = some .abandoned ∧ (t.cavity 0 0).tool = .granted ∧
    t.ports.extract.notices = [.demouldExpired] := by decide

/-- R107: the opened curtain breaks the interlock: the grant is revoked, the cavity is IN_TOOL again and noted. -/
theorem test_interlock_change :
    let t := after (.interlockChange .curtainClear false) openedCell
    t.extraction.grant = none ∧ (t.cavity 0 0).tool = .inTool ∧
    (t.cavity 0 0).notes = [⟨.interlockBreak, 1, 286⟩] ∧ t.ports.extract.notices = [.grantRevoked] := by decide

/-- The streamer of section 8.7 with the ready line held. -/
def streaming (count : Nat) (stream : Option Stream) (ring : List PartRecord) : State :=
  { State.reset with
    pins := { State.reset.pins with readyLine := true }
    settings := { Settings.default with nd := 4, endMarker := true }
    streamer := { State.reset.streamer with unitCount := count, stream := stream }
    ring := ring }

/-- Section 8.7: unit 1 opens a stream; at unit count ND the status unit carries items 41 and 43. -/
theorem test_unit_timer :
    (after .unitTimer (streaming 0 none [oldRecord])).streamer.unitOut =
      some [0x81#8, 0x01#8, 0x00#8, 0x30#8, 0x01#8, 0xF4#8, 0x00#8, 0x05#8] ∧
    (after .unitTimer (streaming 4 none [oldRecord, oldRecord])).streamer.unitOut =
      some [0x02#8, 0x00#8, 41#8, 0x00#8, 0x02#8, 43#8, 0x00#8, 0x00#8] := by decide

/-- Section 8.7, unit 18: the last bytes of the last record, the end record, zeros; the record leaves the ring. -/
theorem test_unit_timer_stream_end :
    let t := after .unitTimer (streaming 2 (some ⟨1, 46⟩) [oldRecord])
    t.streamer.unitOut = some [0x01#8, 0xC8#8, 0x0A#8, 0x00#8, 0x00#8, 0x00#8, 0x00#8, 0x00#8] ∧ t.ring = [] ∧
    t.streamer.stream = none ∧ t.streamer.endOwed = false := by decide

/-- R1, R145, R151: a slot whose write was cut is CORRUPT, with STORE_CORRUPT and the fault flag; the clock is 0. -/
theorem test_reset :
    let t := after (.reset true)
      { State.reset with clock := 5000, store := { State.reset.store with write := some ⟨2, 4990, rec5⟩ } }
    t.clock = 0 ∧ (t.store.slots.get 2).validity = .corrupt ∧ (t.store.slots.get 3).validity = .empty ∧
    t.store.lock = .locked ∧ t.ports.records.notices = [.storeCorrupt] ∧ t.streamer.fault = true := by decide

/-- An idle step is one millisecond; a due cure step is taken first. -/
theorem test_idle_step :
    (match step (cell 181000) with | .next t => t.clock | _ => 0) = 181001 ∧
    (match step curingCell with | .next t => (t.row 0).elapsed | _ => 0) = 254 := by decide

/-- R166 with log 4: the strap that the board sets in the next millisecond is the one that STATUS then reports, and that a
completion due then reads; after it the strap keeps its level. -/
theorem test_strap_follows_the_board :
    let s : State := { cell 181000 with pins := { (cell 181000).pins with strapAhead := [true] } }
    let t := match step s with | .next t => t | _ => s
    s.pins.strap = false ∧ t.pins.strap = true ∧ (s.statusFields.getD 2 (.byte 9)) = .flag false ∧
    (t.statusFields.getD 2 (.byte 9)) = .flag true ∧ (match step t with | .next u => u.pins.strap | _ => false) = true := by
  decide

/-- R166: the level of the strap is the sixth byte after the result code. -/
theorem test_status_strap :
    ((after (.status .press) (after (.reset true) State.reset)).reply.map fun r => r.2.bytes.take 7) =
      some [0#8, 0#8, 0#8, 0#8, 0#8, 0#8, 1#8] := by decide

/-- R119: the eighth kind is appended, the ninth is counted as dropped, a kind of the list is counted; nothing is noted once
the record is due. -/
theorem test_notes_list :
    let notes := fun (l : List NoteKind) => l.map fun k => (⟨k, 1, 0⟩ : Note)
    let seven := [NoteKind.unpermittedClose, .overrideCharge, .forcedOpen, .clearedByCell, .supplyShortfall, .zoneFaultTop,
      .zoneFaultBottom]
    let given := fun (l : List NoteKind) (r : RecordStatus) =>
      { Cavity.freed with notes := notes l, record := r }.giveNote .blind 9
    (given seven .notDue).notes = notes seven ++ [⟨.blind, 1, 9⟩] ∧
    ((given (seven ++ [.noGrant]) .notDue).notes = notes (seven ++ [.noGrant]) ∧
      (given (seven ++ [.noGrant]) .notDue).notesDropped = 1) ∧
    (given [.blind, .noGrant] .notDue).notes = [⟨.blind, 2, 0⟩, ⟨.noGrant, 1, 0⟩] ∧
    (given [] .queued).notes = [] := by decide

/-! ### Witnesses: for each statement with hypotheses, a state and operands that meet them -/

/-- Shot 501 opened with 62 records in the ring, cavity 0 granted and cavity 1 in the tool; shot 502 charged behind it. -/
def lawfulCell : State :=
  { openedCell with
    ring := List.replicate 62 oldRecord
    rows := openedCell.rows.set 1 (rowOf .charged 502 2 (charged 8500 180) (charged 8520 185))
    runs := State.reset.runs.set 5 { mode := .counted, remaining := 4, reserved := 4 } }

theorem lawfulCell_table : lawfulCell.TableLaw where
  freed := by decide
  named := fun i h => ⟨by revert i; decide, by
    have h501 : ∀ i : Fin 8, (lawfulCell.row i).state ≠ .free →
        (lawfulCell.row i).shot = some 501 ∨ (lawfulCell.row i).shot = some 502 := by decide
    rcases h501 i h with h | h
    · exact ⟨501, h, by decide⟩
    · exact ⟨502, h, by decide⟩⟩
  oneShot := by decide
  oneRecipe := by decide

theorem lawfulCell_ranks : lawfulCell.RankLaw where
  range := fun i h => by
    have ranks : ∀ i : Fin 8, (lawfulCell.row i).state ≠ .free →
        (lawfulCell.row i).rank = some 1 ∨ (lawfulCell.row i).rank = some 2 := by decide
    rcases ranks i h with h | h
    · exact ⟨1, h, by decide⟩
    · exact ⟨2, h, by decide⟩
  distinct := by decide

theorem lawfulCell_press : lawfulCell.PressLaw := by constructor <;> decide

theorem lawfulCell_cavities : lawfulCell.CavityLaw := by constructor <;> decide

theorem lawfulCell_grant : lawfulCell.GrantLaw where
  held := by
    rintro g hg
    obtain rfl : (⟨0, 501, 0⟩ : Grant) = g := Option.some.inj hg
    decide
  only := fun i j h => by
    have granted : ∀ i j : Fin 8, (lawfulCell.cavity i j).tool = .granted → i = 0 ∧ j = 0 := by decide
    obtain ⟨rfl, rfl⟩ := granted i j h
    exact ⟨501, rfl⟩
  permitted := by decide

theorem lawfulCell_ring : lawfulCell.RingLaw := by constructor <;> decide

theorem lawfulCell_reserved : lawfulCell.ReservedLaw := ⟨by decide, by decide⟩

theorem rec5_valid : rec5.Valid := by constructor <;> decide

/-- Slot 5 alone of the cell holds a recipe. -/
theorem cell_slot_cases (k : Fin 8) :
    lawfulCell.store.slots.get k = { image := .erased, validity := .empty } ∨
      k = 5 ∧ lawfulCell.store.slots.get k =
        { image := .written rec5 (Config.recipeCheck rec5.toBytes), validity := .valid } := by
  fin_cases k
  all_goals first | exact .inl rfl | exact .inr ⟨rfl, rfl⟩

theorem lawfulCell_store : lawfulCell.StoreLaw where
  valid := fun k h => by
    rcases cell_slot_cases k with e | ⟨-, e⟩
    · rw [e] at h; cases h
    · exact ⟨rec5, rec5_valid, by rw [e]⟩
  written := fun k r check h => by
    rcases cell_slot_cases k with e | ⟨-, e⟩
    · rw [e] at h; cases h
    · rw [e] at h; cases h; exact rec5_valid
  inFlight := fun w h => by cases h
  rows := by decide
  platen := by decide
  platenSlot := by decide

theorem lawfulCell_supply : lawfulCell.SupplyLaw := by constructor <;> decide

theorem lawfulCell_settings : lawfulCell.settings.Law := by constructor <;> decide

theorem lawfulCell_notices : lawfulCell.NoticeLaw := fun p => by
  cases p <;> exact ⟨by decide, by decide⟩

/-- The two cavities of the opened row, the two charged ones, and the freed ones are all that the cell holds. -/
theorem lawfulCell_cavity_cases (i j : Fin 8) :
    lawfulCell.cavity i j ∈ [.freed, cured 8540 190 254 .granted, cured 8614 208 278 .inTool, charged 8500 180,
      charged 8520 185] := by revert i j; decide

theorem lawfulCell_counts : lawfulCell.CountLaw where
  cavities := fun i j => by
    have h := lawfulCell_cavity_cases i j
    simp only [List.mem_cons, List.not_mem_nil, or_false] at h
    rcases h with h | h | h | h | h <;> rw [h] <;> constructor <;> decide
  elapsed := by decide
  sampleErrors := by decide
  totalShortfall := by decide
  integral := by decide
  cellShortfall := by decide
  readback := by decide
  items := by decide
  unitCount := by decide
  frameErrors := fun p => by cases p <;> decide
  overruns := fun p => by cases p <;> decide

/-- A state with a row in use keeps all the laws: the hypothesis of the statements that every step keeps them, and of the
accepted CELL_CLEAR. -/
theorem lawfulCell_lawful : lawfulCell.Lawful :=
  ⟨lawfulCell_table, lawfulCell_ranks, lawfulCell_press, lawfulCell_cavities, lawfulCell_grant,
    show lawfulCell.extraction.uncleared = lawfulCell.inToolCount by decide,
    lawfulCell_ring, lawfulCell_reserved, lawfulCell_store, lawfulCell_supply, lawfulCell_settings, lawfulCell_notices,
    lawfulCell_counts⟩

/-- TableLawsKept to CountLawKept: a lawful state, and the next state of its step. -/
theorem test_witness_laws_kept : ∃ t, lawfulCell.Lawful ∧ step lawfulCell = .next t := ⟨_, lawfulCell_lawful, rfl⟩

/-- EmptyQueueLetsTimePass: nothing due; one expiry due; two of them. -/
theorem test_witness_empty_queue :
    ((cell 181000).pending = [] ∧ (cell 181000).dueEvents = []) ∧
    (curingCell.pending = [] ∧ curingCell.dueEvents = [.cureStep 0]) ∧
    { curingCell with firing := { curingCell.firing with frameTimer := 0 } }.dueEvents = [.frameStart, .cureStep 0] := by decide

/-- The expiries due in a cell that does nothing else, its clock at 4000 000. -/
def dueIn (f : State → State) : List Instr :=
  (f { cell 4000000 with regulator := { (cell 4000000).regulator with idleTimer := none } }).dueEvents

/-- EmptyQueueLetsTimePass: a write at 39 and at 40 ms, a settle run at its timeout and before it, the idle timer at
IDLE_LIMIT, below it and with IDLE_LIMIT 0. -/
theorem test_witness_due_timeouts :
    let write := fun (ms : Nat) (s : State) =>
      { s with store := { s.store with write := some ⟨2, s.clock - BitVec.ofNat 32 ms, rec5⟩ } }
    let run := fun (ms : Nat) (s : State) =>
      { s with weigh := { s.weigh with
        run := some ⟨none, 20, 8, 3000, s.clock - BitVec.ofNat 32 ms, none, 0, 0, 0⟩ } }
    let idle := fun (limit ms : Nat) (s : State) =>
      { s with
        regulator := { s.regulator with idleTimer := some (s.clock - BitVec.ofNat 32 ms) }
        settings := { s.settings with idleLimit := limit } }
    (dueIn (write 39) = [] ∧ dueIn (write 40) = [.recipeWriteComplete false]) ∧
    (dueIn (run 2999) = [] ∧ dueIn (run 3000) = [.settleRunTimeout]) ∧
    (dueIn (idle 60 59999) = [] ∧ dueIn (idle 60 60000) = [.idleExpiry] ∧ dueIn (idle 0 60000) = []) := by decide

/-- EmptyQueueLetsTimePass: a gap of 10 and of 11 ms; a slot start within the frame and after slot 99; the row timers in
CURING and in OPENED, and a stopped one; the unit timer. -/
theorem test_witness_due_timers :
    let gap := fun (ms : Nat) (s : State) =>
      s.setPort .charge { s.port .charge with receiver := .inFrame [4#8] (s.clock - BitVec.ofNat 32 ms) }
    let slot := fun (k : Nat) (s : State) => { s with firing := { s.firing with slot := some k, slotTimer := 0 } }
    let row := fun (state : RowState) (timer : Option Nat) (s : State) =>
      s.setRow 3 { Row.freed with state := state, rowTimer := timer }
    (dueIn (gap 10) = [] ∧ dueIn (gap 11) = [.frameGapTimeout .charge]) ∧
    (dueIn (slot 98) = [.slotStart] ∧ dueIn (slot 99) = []) ∧
    (dueIn (row .curing (some 0)) = [.maxCureExpiry 3] ∧ dueIn (row .opened (some 0)) = [.demouldExpiry 3] ∧
      dueIn (row .opened none) = []) ∧
    dueIn (fun s => { s with streamer := { s.streamer with unitTimer := 0 } }) = [.unitTimer] := by decide

/-- RequestsDecodeToThemselves, RequestFrameActsAsItsRow: the largest operands, on a port that hunts. -/
theorem test_witness_requests :
    (Instr.weigh 65535 255).wellFormed = true ∧ (Instr.weigh 65535 255).sentOn .charge = true ∧
    (Instr.weigh 65535 255).kindByte = some 0x21#8 ∧ (opening.port .charge).receiver = .hunting ∧
    (opening.port .charge).waiting = none ∧ (Instr.recipeWrite (List.replicate 214 0)).wellFormed = true := by decide +kernel

/-- RefusedFrameChangesNothingElse: the catalogue's ends: a payload of its size and one byte off it, the longest sized one,
a request without a size, and one of any port. -/
theorem test_witness_catalogue :
    decodeRequest .extract 0x32#8 [0x01#8, 0xF5#8, 0x07#8] = .ok (.clear 501 7) ∧
    decodeRequest .extract 0x32#8 [0x01#8, 0xF5#8] = .error .malformed ∧
    decodeRequest .records 0x41#8 (List.replicate 213 0) = .error .malformed ∧
    decodeRequest .records 0x41#8 (List.replicate 214 0) = .ok (.recipeWrite (List.replicate 214 0)) ∧
    decodeRequest .records 0x40#8 [] = .ok (.settingsWrite []) ∧ decodeRequest .press 0x40#8 [] = .error .refusedRole ∧
    decodeRequest .charge 0x07#8 [0#8, 0#8] = .ok (.cycleQuery .charge 0) := by decide +kernel

/-- RefusedFrameChangesNothingElse: a frame for each of the three refusals, with the longest payload and the shortest. -/
theorem test_witness_refused_frame :
    (List.replicate 254 (0#8 : Byte)).length ≤ 254 ∧
    catalogue (0x18#8 : Byte).toNat = none ∧ catalogue (0x00#8 : Byte).toNat = none ∧
    (catalogue (0x10#8 : Byte).toNat = some (.only .press) ∧ (Sender.only .press).allows .charge = false) ∧
    ((Sender.only .press).allows .press = true ∧ requestOf .press 0x10 [] = none ∧
      requestOf .press 0x10 (List.replicate 254 0) = none) := by decide +kernel

/-- LinkEventsCountAndClear: a frame while one waits; a wrong check over the shortest body, and the length of the
longest; an unfinished frame. -/
theorem test_witness_link_events :
    (let s := after (.frameReceived .records (frameBytes 0x42#8 [])) State.reset
    (s.port .records).receiver = .hunting ∧ ((s.port .records).waiting.map WaitingFrame.kind) = some 0x42#8) ∧
    ([0#8, 0#8] ≠ be2 (crc16 [1#8, 0x42#8]).toNat ∧ (List.replicate 255 (0#8 : Byte)).length = (255#8 : Byte).toNat) ∧
    ((after (.frameReceived .press [0x7E#8, 0x04#8]) State.reset).port .press).receiver = .inFrame [0x04#8] 0 := by decide +kernel

/-- A cell whose charge port has taken the bytes given of a frame, the last of them `ms` milliseconds ago. -/
def midFrame (bytes : List Byte) (ms : Nat) : State :=
  (cell 4000).setPort .charge
    { (cell 4000).port .charge with receiver := .inFrame bytes ((cell 4000).clock - BitVec.ofNat 32 ms) }

/-- LinkEventsCountAndClear: the rest of a TARE frame within the gap of 10 ms is taken as the whole frame; after 11 ms it
damages the frame, its bytes are hunted through, and a sync there starts a frame anew (R158). -/
theorem test_frame_in_parts :
    let rest := ((frameBytes 0x20#8 []).drop 2)
    let whole := frameBytes 0x20#8 []
    (((after (.frameReceived .charge rest) (midFrame [1#8] 10)).port .charge).waiting.isSome = true ∧
      ((after (.frameReceived .charge rest) (midFrame [1#8] 10)).port .charge).frameErrors = 0) ∧
    (((after (.frameReceived .charge rest) (midFrame [1#8] 11)).port .charge).waiting = none ∧
      ((after (.frameReceived .charge rest) (midFrame [1#8] 11)).port .charge).frameErrors = 1) ∧
    ((after (.frameReceived .charge (0x55#8 :: whole)) (midFrame [1#8] 11)).port .charge).waiting.isSome = true := by
  decide +kernel

/-- LinkEventsCountAndClear: a frame begun, at a gap of 10 ms and of 11, the longest one without its last byte, and a hunting
port. -/
theorem test_witness_frame_parts :
    (((midFrame [] 10).port .charge).receiver = .inFrame [] 3990 ∧ elapsed (midFrame [] 10).clock 3990 = 10) ∧
    (((midFrame [1#8] 11).port .charge).receiver = .inFrame [1#8] 3989 ∧ elapsed (midFrame [1#8] 11).clock 3989 = 11) ∧
    ((255#8 : Byte) ≠ 0#8 ∧ (List.replicate 256 (0#8 : Byte)).length < (255#8 : Byte).toNat + 2) ∧
    ((cell 4000).port .charge).receiver = .hunting ∧ (∀ b ∈ [0x7D#8, (0x7F#8 : Byte)], b ≠ 0x7E#8) := by decide +kernel

/-- NoticesAreRaisedAndPolled: a port with two notices. -/
theorem test_witness_notices :
    ((((cell 181000).raise .press .toolClear).raise .press .releasable).port .press).NoticeLaw :=
  ⟨by decide, by decide⟩

/-- The hypotheses of OpenCycleTakesTheLowestFreeRow on recipe slot 5. -/
abbrev MayOpen (s : State) (shot : Nat) (i : Fin 8) : Prop :=
  s.NamesNone shot ∧ s.store.write.map WriteInFlight.slot ≠ some 5 ∧ (s.store.slots.get 5).validity = .valid ∧
  (∀ m, (s.row m).state ≠ .free → (s.row m).recipe = some 5) ∧ (s.runs.get 5).mode ≠ .unset ∧
  (s.row i).state = .free ∧ (∀ m, m < i → (s.row m).state ≠ .free) ∧
  ((s.runs.get 5).mode = .counted → (s.runs.get 5).reserved < (s.runs.get 5).remaining)

/-- OpenCycleTakesTheLowestFreeRow: the empty cell with the least shot and the greatest. -/
theorem test_witness_open_cycle : MayOpen (cell 181000) 1 0 ∧ MayOpen (cell 181000) 65535 0 := by decide

/-- OpenCycleTakesTheLowestFreeRow: a row in use before the free one, and a platen that leaves READY, since its recipe is
another slot's. -/
theorem test_witness_open_cycle_platen :
    MayOpen opening 502 1 ∧
    MayOpen { cell 181000 with regulator := { (cell 181000).regulator with platenRecipe := some 4 } } 501 0 := by decide

/-- The cell with recipe slot 4 valid as well. -/
def twoSlots (s : State) : State :=
  let slot : StoreSlot := { image := .written rec5 (Config.recipeCheck rec5.toBytes), validity := .valid }
  { s with store := { s.store with slots := s.store.slots.set 4 slot } }

/-- The cell with all eight rows in use. -/
def fullTable : State :=
  { cell 182000 with rows := .ofFn fun i => rowOf .open_ (501 + i.val) (i.val + 1) awaiting awaiting }

/-- A write in flight into a slot. -/
def writing (k : Fin 8) (s : State) : State := { s with store := { s.store with write := some ⟨k, s.clock, rec5⟩ } }

/-- OpenCycleRefusalsFollowTheirOrder: each condition where all earlier ones fail. -/
theorem test_witness_open_cycle_refusals :
    (ShotNumber 1 ∧ ShotNumber 65535) ∧ (∃ m, (opening.row m).state ≠ .free ∧ (opening.row m).shot = some 501) ∧
    (opening.NamesNone 502 ∧ (writing 5 opening).store.write.map WriteInFlight.slot = some 5) ∧
    (opening.store.write.map WriteInFlight.slot ≠ some 4 ∧ (opening.store.slots.get 4).validity ≠ .valid) ∧
    (((twoSlots opening).store.slots.get 4).validity = .valid ∧
      ∃ m, ((twoSlots opening).row m).state ≠ .free ∧ ((twoSlots opening).row m).recipe ≠ some 4) ∧
    ((∀ m, (opening.row m).state ≠ .free → (opening.row m).recipe = some 5) ∧
      (({ opening with runs := State.reset.runs } : State).runs.get 5).mode = .unset) ∧
    ((∀ m, (fullTable.row m).state ≠ .free) ∧ fullTable.NamesNone 600 ∧ (fullTable.runs.get 5).mode ≠ .unset ∧
      ∀ m, (fullTable.row m).state ≠ .free → (fullTable.row m).recipe = some 5) ∧
    (let s : State := { opening with runs := State.reset.runs.set 5 ⟨.counted, 2, 2⟩ }
    (∃ m, (s.row m).state = .free) ∧ (s.runs.get 5).mode = .counted ∧
      (s.runs.get 5).remaining - (s.runs.get 5).reserved = 0) := by decide

/-- FreeingARowClosesTheRanks. -/
theorem test_witness_freeing : (lawfulCell.row 0).state ≠ .free ∧ (lawfulCell.row 0).rank = some 1 := by decide

/-- AbortCycleReleasesAndFrees, ClosedStartsTheCure: a row in OPEN, and one in CHARGED with no row in the press. -/
theorem test_witness_abort_and_closed :
    (opening.Names 501 0 ∧ (opening.row 0).recipe = some 5 ∧ (opening.row 0).state = .open_) ∧
    (chargedCell.Names 501 0 ∧ (chargedCell.row 0).recipe = some 5 ∧ (chargedCell.row 0).state = .charged) ∧
    ∀ m, m ≠ 0 → ¬(chargedCell.row m).Pressed := by decide

/-- AbortCycleReleasesAndFrees (refused), OpenedEndsTheCure, RowQueriesChangeNothing, MaxCureExpiryTimesOut: a row in
CURING, and one in RELEASABLE. -/
theorem test_witness_row_in_the_press :
    (curingCell.Names 501 0 ∧ (curingCell.row 0).state = .curing ∧ (curingCell.row 0).recipe = some 5 ∧
      (curingCell.row 0).timeClosed = some 200000 ∧ (curingCell.row 0).rowTimer = some 106000 ∧
      (curingCell.cavity 0 0).charge = .charged) ∧
    (releasableCell.Names 501 0 ∧ (releasableCell.row 0).Pressed ∧ (releasableCell.row 0).recipe = some 5) ∧
    ∀ j, (opening.cavity 0 j).charge ≠ .charged := by decide

/-- The tool is busy for a row: another row's cavity is in it (R14). -/
abbrev ToolBusy (s : State) (i : Fin 8) : Prop := ∃ k j, k ≠ i ∧ (s.row k).state ≠ .free ∧ (s.cavity k j).InTool

/-- ClosePermitChecksFourConditions: a row that is not CHARGED; a platen that is not READY; a busy tool. -/
theorem test_witness_close_permit_denied :
    (opening.Names 501 0 ∧ (opening.row 0).state ≠ .charged) ∧ State.reset.regulator.platen ≠ .ready ∧
    (curingCell.Names 502 1 ∧ (curingCell.row 1).state = .charged ∧ ToolBusy curingCell 1) := by decide

/-- A row of empty cavities in the press, and shot 501 charged behind it. -/
def pressBusyCell : State :=
  { chargedCell with rows := chargedCell.rows.set 7 (closedRow .releasable 500 2 .freed .freed) }

/-- ClosePermitChecksFourConditions: a busy press alone, and the grant. -/
theorem test_witness_close_permit :
    (pressBusyCell.Names 501 0 ∧ ¬ToolBusy pressBusyCell 0 ∧ ∃ k, k ≠ 0 ∧ (pressBusyCell.row k).Pressed) ∧
    (chargedCell.Names 501 0 ∧ (chargedCell.row 0).state = .charged ∧ chargedCell.regulator.platen = .ready ∧
      ¬ToolBusy chargedCell 0 ∧ ¬∃ k, k ≠ 0 ∧ (chargedCell.row k).Pressed) := by decide

/-- RowQueriesChangeNothing: CYCLE_QUERY of shot 0 on an all-FREE table: 8 FREE rows, no running recipe, no row listed. -/
theorem test_witness_table_query :
    (∀ m, ((cell 0).row m).state = .free) ∧
    (after (.cycleQuery .press 0) (cell 0)).reply =
      some (.press, ⟨.done, [.byte 8, .flag false, .byte 0, .byte 0]⟩) ∧
    (lawfulCell.row 1).state ≠ .free ∧ (lawfulCell.row 1).recipe = some 5 := by decide

/-- MisfitReportsRaiseCellFault, UnknownShotsChangeNothing: an unknown shot; a row in the press, one behind it, one opened,
one not in the press. -/
theorem test_witness_misfit_reports :
    opening.NamesNone 65535 ∧ (curingCell.Names 501 0 ∧ (curingCell.row 0).Pressed ∧ (curingCell.row 0).state ≠ .opened) ∧
    (curingCell.Names 502 1 ∧ ¬(curingCell.row 1).Pressed ∧ ∃ m, m ≠ 1 ∧ (curingCell.row m).Pressed) ∧
    (openedCell.Names 501 0 ∧ (openedCell.row 0).state = .opened) := by decide

/-- CellClearEmptiesTheCell: one place too few in the ring, and exactly enough in a lawful state (lawfulCell_lawful). -/
theorem test_witness_cell_clear :
    let pending := fun (s : State) => ((List.finRange 8).map fun i => (List.finRange 8).countP fun j =>
      decide (((s.row i).Pressed ∨ (s.row i).state = .opened) ∧ (s.cavity i j).charge = .charged ∧
        (s.cavity i j).record ≠ .recorded)).sum
    64 - openedCell.ring.length < pending openedCell ∧ pending lawfulCell = 64 - lawfulCell.ring.length ∧
    lawfulCell.extraction.grant ≠ none ∧ 0 < lawfulCell.extraction.uncleared := by decide

/-- No law speaks of the weigh unit. -/
theorem lawful_weigh {s : State} (h : s.Lawful) (w : WeighUnit) : ({ s with weigh := w } : State).Lawful where
  table := { h.table with }
  ranks := { h.ranks with }
  press := { h.press with }
  cavities := { h.cavities with }
  grant := { h.grant with }
  uncleared := h.uncleared
  ring := { h.ring with }
  reserved := { h.reserved with }
  store := { h.store with }
  supply := { h.supply with }
  settings := h.settings
  notices := h.notices
  counts := { h.counts with }

/-- CellClearEmptiesTheCell: a lawful state with no run, with a tare run, and with a weigh run. -/
theorem test_witness_cell_clear_run :
    (lawfulCell.Lawful ∧ lawfulCell.weigh.run = none) ∧
    (∀ run, ({ lawfulCell with weigh := { lawfulCell.weigh with run := some run } } : State).Lawful) ∧
    ((after .tare opening).weigh.run.map SettleRun.ticket = some none ∧
      (settling.weigh.run.bind SettleRun.ticket).isSome = true) :=
  ⟨⟨lawfulCell_lawful, rfl⟩, fun _ => lawful_weigh lawfulCell_lawful _, by decide⟩

/-- CellClearEmptiesTheCell: what CELL_CLEAR leaves of it. Both records are GOOD and CLEARED, in cavity order, with the note
CLEARED_BY_CELL; remaining falls from 4 to 2. -/
theorem test_cell_clear_records :
    let t := after .cellClear lawfulCell
    ((t.ring.drop 62).map fun r => (r.shot, r.cavity, r.verdict, r.outcome)) =
      [(501, 0, .good, .cleared), (501, 1, .good, .cleared)] ∧
    ((t.ring.drop 62).map fun r => r.notes) = List.replicate 2 [⟨.clearedByCell, 1, 286⟩] ∧
    t.runs.get 5 = ⟨.counted, 2, 0⟩ ∧ t.ports.extract.notices = [.grantRevoked] ∧ t.ports.press.notices = [.toolClear] := by
  decide +kernel

/-- HeatOnWarmsThePlaten: a conflict, a slot being written, an empty slot, an accepted request with the table empty and
with rows in use. -/
theorem test_witness_heat_on :
    (∃ m, (opening.row m).state ≠ .free ∧ (opening.row m).recipe ≠ some 4) ∧
    (∀ m, ((cell 0).row m).state ≠ .free → ((cell 0).row m).recipe = some 4) ∧
    (writing 4 (cell 0)).store.write.map WriteInFlight.slot = some 4 ∧
    (cell 0).store.write.map WriteInFlight.slot ≠ some 4 ∧ ((cell 0).store.slots.get 4).validity ≠ .valid ∧
    ((twoSlots (cell 0)).store.slots.get 4).validity = .valid ∧ (opening.store.slots.get 5).validity = .valid ∧
    (∀ m, (opening.row m).state ≠ .free → (opening.row m).recipe = some 5) := by decide

/-- HeatOffTurnsEverythingOff, IdleExpiryEntersStandby, FrameStartAgesAndSetsSetpoints, ReadyTestMovesThePlaten: a row in
the press; none, with the platen OFF and READY; the idle timer running; the platen recipe. -/
theorem test_witness_platen :
    (∃ m, (curingCell.row m).Pressed) ∧ (∀ m, ¬((cell 0).row m).Pressed) ∧ (cell 0).regulator.platen ≠ .off ∧
    (∀ m, ¬(State.reset.row m).Pressed) ∧ State.reset.regulator.platen = .off ∧
    (cell 0).regulator.idleTimer = some 10000 ∧
    ((cell 0).regulator.platen ≠ .off → (cell 0).regulator.platenRecipe = some 5) ∧
    (State.reset.regulator.platen ≠ .off → State.reset.regulator.platenRecipe = some 0) ∧
    (cell 0).regulator.platenRecipe = some 5 := by decide

/-- A WARMING platen one passing frame start from READY. -/
def warming (dwell : Nat) : State :=
  { cell 180000 with regulator := { (cell 180000).regulator with platen := .warming, dwell := dwell } }

/-- ReadyTestMovesThePlaten: the pass and the failure in WARMING, and the pass in READY (the failure: see
test_frame_start_leaves_ready). -/
theorem test_witness_ready_test :
    ((after .frameStart (warming 2)).regulator.platen = .ready ∧
      (after .frameStart (warming 2)).ports.press.notices = [.platenReady]) ∧
    ((after .frameStart (warming 1)).regulator.platen = .warming ∧ (after .frameStart (warming 1)).regulator.dwell = 2) ∧
    ((after .frameStart (after (.sampleArrival 7 0x7FFF#16) (warming 2))).regulator.dwell = 0) ∧
    (after .frameStart (cell 180000)).regulator.platen = .ready := by decide

/-- ShortfallReachesTheCuringCavities: a frame in progress that leaves zone 7 short under a CURING cavity; cavities that are
not CURING in rows that are CHARGED and FREE. -/
theorem test_witness_shortfall :
    let s := frameAt 99 false 0 0 10 0
    s.firing.slot ≠ none ∧ 0 < (s.firing.zones.get 7).owed ∧ (s.row 0).recipe = some 5 ∧
    ((s.row 1).state = .charged ∧ (s.cavity 1 0).cure ≠ .curing ∧ (s.row 2).state = .free ∧
      (s.cavity 2 0).cure ≠ .curing) ∧
    (s.row 0).timeClosed = some 200000 ∧ (s.cavity 0 0).cure = .curing ∧ (s.recipeAt 5).bottomZone.get 0 = 7 ∧
    (s.recipeAt 5).topZone.get 1 ≠ 7 ∧ (s.recipeAt 5).bottomZone.get 1 ≠ 7 := by decide

/-- FrameStartClosesAndOpensTheFrame: slot 0 with a supply limit of 1 grants the candidate that stands first by FIRING_RANK
and defers the other; a zone whose window opens later is neither. -/
theorem test_witness_frame_start :
    let hot : State := { cell 180000 with
      regulator := { (cell 180000).regulator with
        zones := (cell 180000).regulator.zones.map fun z => { z with integral := 4000 } } }
    let s : State := { hot with
      settings := { (cell 180000).settings with
        supplyLimit := 1, stagger := vec [0, 0, 0, 0, 0, 0, 0, 10, 0, 0, 99, 0] } }
    let t := after .frameStart s
    (s.regulator.platen ≠ .off → s.regulator.platenRecipe = some 5) ∧ outputs t = [1] ∧
    ((t.firing.zones.get 4).deferred, (t.firing.zones.get 7).deferred, (t.firing.zones.get 10).deferred) =
      (true, false, true) ∧ 0 < (t.firing.zones.get 7).frameDuty := by decide

/-- SlotStartGrantsByRank: the first slot start after slot 0 and the last of a frame. -/
theorem test_witness_slot_start :
    (frameAt 0 false 40 40 40 40).firing.slot = some 0 ∧ (frameAt 98 false 0 0 12 2).firing.slot = some 98 ∧
    0 < ((frameAt 98 false 0 0 12 2).firing.zones.get 7).owed := by decide

/-- DutyFollowsTheRegulationRules: setpoint 0; no usable reading; above the cutback level, at it, and at the lower one. -/
theorem test_witness_duty :
    Zone.initial.setpoint = 0 ∧ ({ dutyZone 0 0 with sensor := .stale } : Zone).sensor ≠ .ok ∧
    ((dutyZone 1561 0).sensor = .ok ∧ (dutyZone 1561 0).reading = some 1561 ∧
      (1561 : Int) > (dutyZone 1561 0).setpoint + rec5.cutbackBand) ∧
    (1560 : Int) ≤ (dutyZone 1560 0).setpoint + rec5.cutbackBand := by decide

/-- RateFactorLiesBetweenItsEntries: the ends of the table and of its first and last intervals. -/
theorem test_witness_rate_factor :
    0 < rec5.width ∧ (1199 : Int) < rec5.base ∧ rec5.base + 15 * rec5.width ≤ 2700 ∧
    (rec5.base + (0 : Nat) * rec5.width ≤ 1200 ∧ (1200 : Int) < rec5.base + ((0 : Nat) + 1) * rec5.width) ∧
    (rec5.base + (14 : Nat) * rec5.width ≤ 2699 ∧ (2699 : Int) < rec5.base + ((14 : Nat) + 1) * rec5.width) := by decide

/-- CureStepIntegratesTheRow: a running step timer; two usable zones, one, and none. -/
theorem test_witness_cure_step :
    (curingCell.row 0).stepTimer = some 0 ∧ (curingCell.row 0).recipe = some 5 ∧
    (curingCell.cavity 0 0).cure = .curing ∧ (curingCell.cavity 0 2).cure = .none ∧
    ((curingCell.regulator.zones.get 1).sensor = .ok ∧ (curingCell.regulator.zones.get 1).reading = some 1500 ∧
      (curingCell.regulator.zones.get 1).arrival = some 454000) ∧
    ((after (.cureStep 0) (after (.sampleArrival 1 0x7FFF#16) (after (.sampleArrival 7 0x7FFF#16) curingCell))).cavity 0 0).blind
      = 1 := by decide

/-- Shot 501 in the press, cavity 0 with a trace of the length given, at a step at which a point is due. -/
def tracing (points : Nat) : State :=
  let c := { curing 8540 190 48576 with trace := List.replicate points 1500 }
  cellWith 454000 { closedRow .curing 501 1 c (curing 8614 208 48576) with
    rowTimer := some 106000, stepTimer := some 0, elapsed := 251 } 2 2

/-- CureStepIntegratesTheRow: the 32nd trace point is taken (R77), the 33rd is marked and noted. -/
theorem test_witness_trace :
    252 % rec5.traceInterval = 0 ∧
    (((after (.cureStep 0) (tracing 31)).cavity 0 0).trace.length, ((after (.cureStep 0) (tracing 31)).cavity 0 0).traceFull,
      ((after (.cureStep 0) (tracing 31)).cavity 0 0).notes) = (32, false, []) ∧
    (((after (.cureStep 0) (tracing 32)).cavity 0 0).trace.length, ((after (.cureStep 0) (tracing 32)).cavity 0 0).traceFull,
      ((after (.cureStep 0) (tracing 32)).cavity 0 0).notes) = (32, true, [⟨.traceTruncated, 1, 252⟩]) := by decide

/-- The hypotheses on a cavity of shot 501 that a WEIGH may take its charge. -/
abbrev MayWeigh (s : State) : Prop :=
  s.Names 501 0 ∧ (s.row 0).recipe = some 5 ∧ ((s.row 0).state = .open_ ∨ (s.row 0).state = .charged) ∧
    (s.cavity 0 0).charge = .awaitCharge

/-- Shot 501 open, cavity 0 at its last attempt. -/
def exhausted : State :=
  { opening with rows := opening.rows.set 0 (rowOf .open_ 501 1 { awaiting with attempts := 3 } awaiting) }

/-- Shot 501 open without a tare. -/
def untared : State := { opening with weigh := State.reset.weigh }

/-- TareAndWeighStartTheRun: WEIGH refused by its last three conditions, and accepted; TARE likewise. -/
theorem test_witness_weigh :
    (MayWeigh exhausted ∧ (exhausted.cavity 0 0).attempts = (exhausted.recipeAt 5).maxAttempts) ∧
    (MayWeigh untared ∧ (untared.cavity 0 0).attempts ≠ (untared.recipeAt 5).maxAttempts ∧ untared.weigh.tare = none) ∧
    (MayWeigh settling ∧ (settling.cavity 0 0).attempts ≠ (settling.recipeAt 5).maxAttempts ∧
      settling.weigh.tare ≠ none ∧ settling.weigh.run ≠ none) ∧
    (MayWeigh opening ∧ opening.weigh.tare ≠ none ∧ opening.weigh.run = none) :=
  ⟨by decide, by decide, by decide, by decide⟩

/-- TareAndWeighStartTheRun: WEIGH of a row in the press, of a cavity that is EMPTY, and of one that is CHARGED. -/
theorem test_witness_weigh_refused :
    (curingCell.Names 501 0 ∧ (curingCell.row 0).state ≠ .open_ ∧ (curingCell.row 0).state ≠ .charged) ∧
    (opening.cavity 0 7).charge = .empty ∧
    ((chargedCell.row 0).state = .charged ∧ (chargedCell.cavity 0 0).charge = .charged) := by decide

/-- SamplesAreRoutedAndClassified: the values at the ends of the range, and beyond them. -/
theorem test_witness_samples :
    opening.weigh.run = none ∧ (-500 ≤ (0xFE0C#16).toInt ∧ (0xFE0C#16).toInt = -500) ∧ (0xFE0B#16).toInt = -501 ∧
    ((4500#16).toInt ≤ 4500 ∧ (0x7FFF#16).toInt = 32767) ∧ (12 < 13) := by decide

/-- PanSamplesSettleTheRun: a value of 60000 and one above it; a sample that joins and settles the run, one that joins it,
one that becomes the reference. -/
theorem test_witness_pan_samples :
    (60000 < (60001#16).toNat ∧ (60000#16).toNat ≤ 60000) ∧
    (settling.weigh.run.map fun r => (r.reference, r.count, r.sum, r.band, r.settleCount)) =
      some (some 10210, 3, 30629, 15, 4) := by decide

/-- TheRunEndLeavesItsResult: a tare run; a weigh run with a tare; no run. -/
theorem test_witness_run_end :
    (((after .tare opening).weigh.run.map SettleRun.ticket) = some none ∧ (after .tare opening).weigh.run ≠ none) ∧
    ((settling.weigh.run.bind SettleRun.ticket).isSome ∧ settling.weigh.tare = some 1840) ∧
    opening.weigh.run = none := by decide

/-- AdmissionChargesTheCavity: a row and no weigh result. -/
theorem test_witness_admission_without_result :
    (opening.Names 501 0 ∧ opening.weigh.result = none) ∧ (chargedCell.Names 501 0 ∧ (chargedCell.row 0).state ≠ .open_) ∧
    code (after (.admitCharge 501 0) opening) = some .notAccepted := by decide

/-- AdmissionChargesTheCavity: a result that is accepted; another cavity's and another shot's; one that was admitted
already; a row that is not OPEN. -/
theorem test_witness_admission :
    (let s := weighed 0 8540 .accept
    s.Names 501 0 ∧ (s.row 0).recipe = some 5 ∧ (s.row 0).state = .open_ ∧ (s.cavity 0 0).charge = .awaitCharge ∧
      (s.weigh.result.map fun r => (r.shot, r.cavity, r.orphaned, r.admitted, r.net)) =
        some (501, 0, false, false, some 8540)) ∧
    ((after (.admitCharge 501 0) (weighed 0 8540 .accept)).weigh.result.map WeighResult.admitted) = some true ∧
    (let s : State := { chargedCell with weigh := (weighed 0 8540 .accept).weigh }
    s.Names 501 0 ∧ (s.row 0).state ≠ .open_) := by decide

/-- The result of a LIGHT charge for a recipe that allows the override. -/
def overridable : State :=
  let r := { rec5 with overrideAllowed := 1 }
  let slot : StoreSlot := { image := .written r (Config.recipeCheck r.toBytes), validity := .valid }
  { weighed 1 8370 .light with store := { (cell 0).store with slots := (cell 0).store.slots.set 5 slot } }

/-- AdmissionChargesTheCavity: a LIGHT result where the override is allowed, and where it is not; a result without a
weight; an orphaned one. -/
theorem test_witness_admission_classes :
    (overridable.recipeAt 5).overrideAllowed = 1 ∧ overridable.Names 501 0 ∧
    (overridable.weigh.result.map WeighResult.cls) = some .light ∧ ((weighed 1 8370 .light).recipeAt 5).overrideAllowed ≠ 1 ∧
    (let s := after .settleRunTimeout settling
    s.Names 501 0 ∧ (s.row 0).state = .open_ ∧ (s.weigh.result.map WeighResult.cls) = some .unstable) ∧
    ((after (.openCycle 501 5) (after (.abortCycle 501) (weighed 0 8540 .accept))).weigh.result.map WeighResult.orphaned) =
      some true := by decide

/-- Shot 501 opened with no grant, and the interlock inputs given. -/
def grantable (inputs : Interlocks) : State :=
  let row := closedRow .opened 501 1 (cured 8540 190 254 .inTool) (cured 8614 208 278 .inTool)
  { openedCell with
    rows := State.reset.rows.set 0 { row with timePressOpened := some 481400 }
    extraction := { grant := none, inputs := inputs, uncleared := 2 } }

/-- ExtractGrantFollowsItsChecks: a row that is not OPENED, a grant held, an interlock open, and a grant to give. -/
theorem test_witness_extract_grant :
    (curingCell.Names 501 0 ∧ (curingCell.row 0).state ≠ .opened) ∧
    (openedCell.Names 501 0 ∧ (openedCell.row 0).state = .opened ∧ (openedCell.cavity 0 1).tool = .inTool ∧
      openedCell.extraction.grant ≠ none) ∧
    (let s := grantable ⟨false, false, false, false⟩
    s.Names 501 0 ∧ (s.row 0).state = .opened ∧ (s.cavity 0 0).tool = .inTool ∧ s.extraction.inputs.combination = 0) ∧
    (let s := grantable ⟨true, true, true, true⟩
    s.Names 501 0 ∧ (s.row 0).state = .opened ∧ (s.cavity 0 0).tool = .inTool ∧
      s.extraction.inputs.combination = 15 ∧ s.settings.interlockPattern.getLsbD 15 = true) := by decide

/-- InputLevelsAreTaken: a level that is there already, and a change that revokes the grant. -/
theorem test_witness_input_levels :
    openedCell.extraction.inputs.level .curtainClear = true ∧
    openedCell.extraction.inputs.level .curtainClear ≠ false ∧
    openedCell.extraction.grant = some ⟨0, 501, 0⟩ ∧ openedCell.settings.interlockPattern.getLsbD 11 = false ∧
    (openedCell.row 0).timeClosed = some 200000 := by decide

/-- RecordsEnterAndLeaveTheRing: a cavity whose record becomes due; an empty record queue; a queued cavity. -/
theorem test_witness_records :
    ((openedCell.row 0).recipe = some 5 ∧ (openedCell.row 0).shot = some 501 ∧
      (openedCell.row 0).timeClosed = some 200000 ∧ (openedCell.cavity 0 0).chargeRec ≠ none ∧
      (openedCell.cavity 0 0).targetAdj = some 190 ∧ openedCell.ring.length < 64) ∧
    openedCell.recordQueue = [] ∧ fullCell.recordQueue = (0, 1) :: [] ∧ (fullCell.cavity 0 1).frozen ≠ none ∧
    ¬fullCell.ring.length < 64 := by decide

/-- ToolReportsSettleTheCavity, DemouldExpiryAbandonsTheRow: a row in OPENED whose cavities are GRANTED, IN_TOOL, STUCK,
ABANDONED, and without a part. -/
theorem test_witness_tool_reports :
    (openedCell.Names 501 0 ∧ (openedCell.row 0).state = .opened ∧ (openedCell.row 0).timeClosed = some 200000 ∧
      (openedCell.row 0).rowTimer = some 40400 ∧ (openedCell.row 0).recipe = some 5) ∧
    (openedCell.cavity 0 0).tool = .granted ∧ (openedCell.cavity 0 1).tool = .inTool ∧
    (openedCell.cavity 0 7).tool = .notInTool ∧ (fullCell.cavity 0 1).tool = .stuck ∧
    ((after (.demouldExpiry 0) openedCell).cavity 0 1).tool = .abandoned := by decide

/-- ToolReportsSettleTheCavity: CLEAR on a cavity that is IN_TOOL in a row that is not in OPENED, and on one that is GRANTED
in a row that is. -/
theorem test_witness_clear_refused :
    curingCell.CavityLaw ∧ (curingCell.Names 501 0 ∧ (curingCell.row 0).state ≠ .opened ∧
      (curingCell.cavity 0 0).tool = .inTool ∧ code (after (.clear 501 0) curingCell) = some .wrongState) ∧
    (openedCell.Names 501 0 ∧ (openedCell.cavity 0 0).tool = .granted) :=
  ⟨by constructor <;> decide, by decide, by decide⟩

/-- DemouldExpiryAbandonsTheRow: two cavities in the tool and one free ring slot, so that the first is RECORDED and the second
QUEUED with its frozen record. -/
theorem test_witness_demould :
    let row := closedRow .opened 501 1 (cured 8540 190 254 .inTool) (cured 8614 208 278 .inTool)
    let s := openedCell.setRow 0 { row with rowTimer := some 0 }
    let t := after (.demouldExpiry 0) s
    s.ring.length = 63 ∧ (t.ring.drop 63).map PartRecord.cavity = [0] ∧ t.recordQueue = [(0, 1)] ∧
    ((t.cavity 0 0).record, (t.cavity 0 1).record) = (.recorded, .queued) ∧
    (t.cavity 0 1).frozen = some (s.freeze 0 1 .abandoned) ∧ (t.cavity 0 0).verdict = some .abandoned := by decide

/-- UnitTimerSendsOneUnit: an owed end record, which takes a DATA unit of zeros before any stream byte (R140). -/
theorem test_witness_end_owed :
    let s := streaming 3 none [oldRecord]
    let owed : State := { s with streamer := { s.streamer with endOwed := true } }
    owed.streamer.unitCount < owed.settings.nd ∧
    (after .unitTimer owed).streamer.unitOut = some (1#8 :: List.replicate 7 0#8) ∧
    (after .unitTimer owed).streamer.endOwed = false ∧ (after .unitTimer owed).ring = [oldRecord] := by decide

/-- UnitTimerSendsOneUnit: the items of R138: no row CURING; the oldest row CURING, with a cavity that bears a part and one
that does not; a reading, none; the pan reading absent. -/
theorem test_witness_items :
    (∀ i, (opening.row i).state ≠ .curing) ∧ opening.itemValue 32 = [0xFF#8, 0xFF#8] ∧
    ((curingCell.row 0).state = .curing ∧ (∀ m, (curingCell.row m).state = .curing → m = 0) ∧
      (curingCell.cavity 0 1).charge = .charged ∧ (curingCell.cavity 0 2).charge ≠ .charged) ∧
    (curingCell.itemValue 33 = [0#8, 91#8] ∧ curingCell.itemValue 39 = [0xFF#8, 0xFF#8]) ∧
    (State.reset.itemValue 11 = [0x80#8, 0#8] ∧ curingCell.itemValue 1 = [0x05#8, 0xDC#8] ∧
      State.reset.itemValue 40 = [0xFF#8, 0xFE#8]) := by decide

/-- The ranks of the cell in the press (R3), as UnitTimerSendsOneUnit asks. -/
theorem curingCell_ranks : curingCell.RankLaw where
  range := fun i h => by
    have ranks : ∀ i : Fin 8, (curingCell.row i).state ≠ .free →
        (curingCell.row i).rank = some 1 ∨ (curingCell.row i).rank = some 2 := by decide
    rcases ranks i h with h | h
    · exact ⟨1, h, by decide⟩
    · exact ⟨2, h, by decide⟩
  distinct := by decide

/-- UnitTimerSendsOneUnit: a difference of 127 takes one byte, one of 128 the escape; −127 and −128 likewise (R144). -/
theorem test_witness_trace_bytes :
    traceBytes [0, 127, 255, 128, 0] =
      [0#8, 0#8, 0x7F#8, 0x80#8, 0#8, 0xFF#8, 0x81#8, 0x80#8, 0#8, 0#8] := by decide

/-- UnitTimerSendsOneUnit: a record of 7 attempts with every absent value absent, to its first 14 bytes and its length
(R142). -/
theorem test_witness_record_bytes :
    let r := { oldRecord with
      attempts := 7, override := true, timePressOpened := none, reached := none, peak := none, trace := [] }
    r.bytes.length = 40 ∧ r.bytes.take 14 =
      [1#8, 0#8, 40#8, 0x01#8, 0xF4#8, 0#8, 5#8, 0#8, 0x21#8, 0x34#8, 0xC7#8, 0#8, 180#8, 0xFF#8] := by decide

/-- UnitTimerSendsOneUnit: the ready line down; a STATUS due, and not due; no owed end record; a position within a record,
and positions at which its last byte is sent, with a record behind it and with none. -/
theorem test_witness_unit_timer :
    State.reset.pins.readyLine = false ∧ (streaming 4 none []).pins.readyLine = true ∧
    (streaming 4 none []).settings.nd ≤ (streaming 4 none []).streamer.unitCount ∧
    ¬(streaming 3 none []).settings.nd ≤ (streaming 3 none []).streamer.unitCount ∧
    (streaming 3 none []).streamer.endOwed = false ∧ oldRecord.bytes.length = 48 ∧ 40 + 7 < 48 ∧ 41 < 48 ∧ 48 ≤ 41 + 7 ∧
    ((streaming 3 (some ⟨0, 41⟩) [oldRecord, oldRecord]).recordSent.ring = [oldRecord] ∧
      (streaming 3 (some ⟨0, 41⟩) [oldRecord]).recordSent.ring = []) := by decide

/-- ValidationAcceptsTheRanges: 213 bytes; a recipe that fits them, and one that does, though validation refuses it. -/
theorem test_witness_recipe_bytes :
    (List.replicate 213 (0xFF#8 : Byte)).length = 213 ∧ rec5.Fits ∧
    ({ rec5 with base := -32768, kp := 255, rate := .replicate 16 65535 } : Recipe).Fits :=
  ⟨rfl, by constructor <;> decide, by constructor <;> decide⟩

/-- RecipeWriteProgramsTheSlot: the lengths and slot numbers at their ends; LOCKED, BUSY, IN_USE, a failing recipe and a
passing one. -/
theorem test_witness_recipe_write :
    (rec5.toBytes.length = 213 ∧ (7#8 : Byte).toNat = 7 ∧ 7 < (8#8 : Byte).toNat) ∧
    ((after .lockStore opening).store.lock = .locked ∧ opening.store.lock = .unlocked ∧ opening.store.write = none) ∧
    (writing 4 opening).store.write ≠ none ∧
    (∃ m, (opening.row m).state ≠ .free ∧ (opening.row m).recipe = some 5) ∧
    (∀ m, (opening.row m).state ≠ .free → (opening.row m).recipe ≠ some 4) ∧
    (Recipe.ofBytes rec5.toBytes).firstFailure = none ∧
    (Recipe.ofBytes (List.replicate 213 0)).firstFailure = some (3, 0) ∧
    (writing 5 (cell 0)).store.write = some ⟨5, 0, rec5⟩ ∧ (∀ m, ((cell 0).row m).state = .free) := by decide +kernel

/-- SettingsAndRunsAreSet: a list of entries that passes, at the ends of the field numbers; the modes; the readback queue
below 16 and at 16. -/
theorem test_witness_settings :
    (let es : List (Nat × List Byte) := [(1, [0#8, 13#8]), (3, (List.range 12).map (BitVec.ofNat 8)), (20, [0#8, 43#8])]
    es ≠ [] ∧ (es.map Prod.fst).Nodup ∧ ∀ e ∈ es, 1 ≤ e.1 ∧ e.1 ≤ 20 ∧
      e.2.length = (if e.1 = 3 ∨ e.1 = 4 then 12 else 2) ∧ (e.1 = 3 → e.2.Nodup ∧ ∀ b ∈ e.2, b.toNat ≤ 11)) ∧
    (isItem 43 = true ∧ [0#8, 43#8] = be2 43) ∧ settingsEntries [] = none ∧ settingsEntries [21#8, 0#8, 0#8] = none ∧
    ((opening.runs.get 5).reserved = 2 ∧ 1 < 2) ∧
    (opening.streamer.readback.length < 16 ∧ 16 ≤ (List.replicate 16 43).length) := by decide

/-- R168: a value outside its range of R167 takes the nearer end, NE 0 to 1 and 33 to 32; HOLD_LIMIT 13
and TARE_COUNT 15 are clamped to 12 and 14, END_MARKER 2 to 1. -/
theorem test_settings_clamped :
    (after (.settingsWrite [17#8, 0#8, 0#8]) (cell 0)).settings.ne = 1 ∧
    (let t := after (.settingsWrite [17#8, 0#8, 33#8, 2#8, 0#8, 13#8, 11#8, 0#8, 15#8, 18#8, 0#8, 2#8]) (cell 0)
    t.settings.ne = 32 ∧ t.settings.holdLimit = 12 ∧ t.settings.tareCount = 14 ∧ t.settings.endMarker = true) := by decide

/-- SettingsAndRunsAreSet: an IDLE_LIMIT that the elapsed time has reached makes the idle timer expire. -/
theorem test_witness_idle_limit :
    (after (.settingsWrite [0x08#8, 0x00#8, 0x3C#8]) (cell 181000)).regulator.platen = .standby := by decide

/-- QueriesOnlyReply: the states of a slot; the lock; the runs; the weigh results. -/
theorem test_witness_queries :
    (writing 5 (cell 0)).store.write.map WriteInFlight.slot = some 5 ∧
    ((cell 0).store.write.map WriteInFlight.slot ≠ some 5 ∧ ((cell 0).store.slots.get 5).validity = .valid ∧
      ((cell 0).store.slots.get 4).validity ≠ .valid ∧ (cell 0).store.lock = .unlocked) ∧
    (after .lockStore (cell 0)).store.lock = .locked ∧
    ((cell 0).runs.get 5).mode = .counted ∧ ((cell 0).runs.get 4).mode ≠ .counted := by decide

end Sys2Proof.Tests
end

section
/-! The cycle table: OPEN_CYCLE (R10, R11), CLOSED (R17), OPENED (R18) and the expiry of MAX_CURE (R8). First what the
chapter's own tests and row operations do, then the statements, assembled from that. -/

namespace Sys2Proof.Machine

/-! ### A request or report as a command of its own row (log 6) -/

theorem respond_eq (p : PortId) (t : State × Reply) :
    respond p t = .next { t.1 with reply := some (p, t.2) } := rfl

theorem State.row_withReply (s : State) (p : PortId) (r : Reply) (i : Fin 8) :
    (s.withReply p r).row i = s.row i := rfl

theorem State.cavity_withReply (s : State) (p : PortId) (r : Reply) (i j : Fin 8) :
    (s.withReply p r).cavity i j = s.cavity i j := rfl

theorem exec_openCycle (shot recipe : Nat) (s : State) :
    exec (.openCycle shot recipe) s = respond .press (takeOpenCycle shot recipe s) := rfl

theorem exec_closed (shot : Nat) (s : State) : exec (.closed shot) s = respond .press (takeClosed shot s) := rfl

theorem exec_opened (shot : Nat) (s : State) : exec (.opened shot) s = respond .press (takeOpened shot s) := rfl

theorem exec_maxCureExpiry (i : Fin 8) (s : State) : exec (.maxCureExpiry i) s = execMaxCureExpiry i s := rfl

/-! ### The tests on rows -/

@[simp] theorem Row.live_iff (r : Row) : r.live = true ↔ r.state ≠ .free := by simp [Row.live]

@[simp] theorem Row.live_eq_false_iff (r : Row) : r.live = false ↔ r.state = .free := by simp [Row.live]

theorem Row.inPress_iff (r : Row) : r.inPress = true ↔ r.Pressed := by simp [Row.inPress]

theorem State.anyOther_eq_false_iff (s : State) (i : Fin 8) (p : Row → Bool) :
    s.anyOther i p = false ↔ ∀ m, m ≠ i → p (s.row m) = false := by
  simp [State.anyOther]

/-! ### The checks of OPEN_CYCLE (R10) -/

theorem shotOk_zero : shotOk 0 = false := rfl

theorem State.findShot_isSome_iff (s : State) (shot : Nat) :
    (s.findShot shot).isSome = true ↔ ∃ m, (s.row m).state ≠ .free ∧ (s.row m).shot = some shot := by
  rw [Option.isSome_iff_ne_none, State.findShot, Ne, Vec.find_eq_none_iff]
  simp [State.row]

theorem State.no_holder_of_namesNone {s : State} {shot : Nat} (h : s.NamesNone shot) :
    ¬∃ m, (s.row m).state ≠ .free ∧ (s.row m).shot = some shot :=
  fun ⟨m, hl, hs⟩ => h.2 m hl hs

theorem State.writingTo_iff (s : State) (k : Fin 8) :
    s.writingTo k = true ↔ s.store.write.map WriteInFlight.slot = some k := by
  unfold State.writingTo
  cases s.store.write <;> simp

theorem State.conflictsWith_iff (s : State) (k : Fin 8) :
    s.conflictsWith k = true ↔ ∃ m, (s.row m).state ≠ .free ∧ (s.row m).recipe ≠ some k := by
  simp [State.conflictsWith, Vec.any_iff, State.row]

theorem State.no_conflict {s : State} {k : Fin 8} (h : ∀ m, (s.row m).state ≠ .free → (s.row m).recipe = some k) :
    ¬∃ m, (s.row m).state ≠ .free ∧ (s.row m).recipe ≠ some k :=
  fun ⟨m, hl, hr⟩ => hr (h m hl)

/-- Without a FREE row the search for one fails. -/
theorem State.findFree_eq_none {s : State} (h : ∀ m, (s.row m).state ≠ .free) :
    (s.rows.find fun r => !r.live) = none :=
  (Vec.find_eq_none_iff _ _).2 fun m => by simpa [State.row] using h m

/-- The search for a FREE row finds the lowest-numbered one. -/
theorem State.findFree_lowest {s : State} {i : Fin 8} (hi : (s.row i).state = .free)
    (low : ∀ m, m < i → (s.row m).state ≠ .free) : (s.rows.find fun r => !r.live) = some i :=
  Vec.find_lowest (by simpa [State.row] using hi) fun m hm => by simpa [State.row] using low m hm

/-- With a FREE row the search for one succeeds. -/
theorem State.findFree_of_exists {s : State} {m : Fin 8} (h : (s.row m).state = .free) :
    ∃ i, (s.rows.find fun r => !r.live) = some i := by
  refine Option.ne_none_iff_exists'.1 fun hn => ?_
  have := (Vec.find_eq_none_iff _ _).1 hn m
  simp_all [State.row]

/-- OPEN_CYCLE with parameters in their ranges: R10's conditions in their order, then R11. -/
theorem takeOpenCycle_eq {shot : Nat} (h : ShotNumber shot) (k : Fin 8) (s : State) :
    takeOpenCycle shot k.val s =
      if ∃ m, (s.row m).state ≠ .free ∧ (s.row m).shot = some shot then (s, .plain .duplicateShot)
      else if s.store.write.map WriteInFlight.slot = some k then (s, .plain .busy)
      else if (s.store.slots.get k).validity ≠ .valid then (s, .plain .recipeInvalid)
      else if ∃ m, (s.row m).state ≠ .free ∧ (s.row m).recipe ≠ some k then (s, .plain .recipeConflict)
      else if (s.runs.get k).mode = .unset then (s, .plain .noRun)
      else (s.rows.find fun r => !r.live).elim (s, .plain .tableFull) fun i =>
        if (s.runs.get k).mode = .counted ∧ (s.runs.get k).remaining - (s.runs.get k).reserved = 0 then
          (s, .plain .runComplete)
        else s.openRow i k shot := by
  simp only [takeOpenCycle, (shotOk_iff shot).2 h, index8_val, State.findShot_isSome_iff, State.writingTo_iff,
    State.conflictsWith_iff]
  cases s.rows.find fun r => !r.live <;> rfl

/-- An OPEN_CYCLE that is answered by its code alone, the state left as it is. -/
theorem exec_openCycle_of_plain {s : State} {shot recipe : Nat} {code : ResultCode}
    (h : takeOpenCycle shot recipe s = (s, .plain code)) :
    exec (.openCycle shot recipe) s = .next { s with reply := some (.press, ⟨code, []⟩) } := by
  rw [exec_openCycle, respond_eq, h]
  rfl

/-! ### An accepted OPEN_CYCLE (R11) -/

/-- Fewer than 8 cavities stand below one of the 8, so a run with room for 8 bounds none (R11). -/
theorem countP_below_lt (j : Fin 8) (p : Fin 8 → Bool) :
    ((List.finRange 8).countP fun m => decide (m < j) && p m) < 8 := by
  have hle : ((List.finRange 8).countP fun m => decide (m < j) && p m) ≤
      (List.finRange 8).countP fun m => decide (m < j) :=
    List.countP_mono_left fun m _ h => by simp_all
  have hlt : ∀ j : Fin 8, ((List.finRange 8).countP fun m => decide (m < j)) < 8 := by decide
  exact Nat.lt_of_le_of_lt hle (hlt j)

/-- A cavity is chosen where fewer enabled ones stand below it than the run has room for; a run that is not COUNTED has
room for all (R11 step 2). -/
theorem lowestOf_room_iff (enabled : Vec Bool 8) (e : RunEntry) (j : Fin 8) :
    (lowestOf enabled e.room).get j = true ↔ enabled.get j = true ∧ (e.mode = .counted →
      ((List.finRange 8).countP fun m => decide (m < j) && enabled.get m) < e.remaining - e.reserved) := by
  by_cases hm : e.mode = .counted
  · simp [lowestOf, RunEntry.room, hm]
  · simp [lowestOf, RunEntry.room, hm, countP_below_lt]

theorem openedRow_eq (shot : Nat) (k : Fin 8) (rank : Nat) (now : Clock) (chosen : Vec Bool 8) :
    openedRow shot k rank now chosen = { Row.freed with
      state := .open_
      shot := some shot
      recipe := some k
      rank := some rank
      timeOpened := some now
      cavities := Vec.ofFn fun j =>
        { Cavity.freed with charge := if chosen.get j then .awaitCharge else .empty } } := by
  have hcav : (chosen.map fun b => if b then { Cavity.freed with charge := .awaitCharge } else Cavity.freed) =
      Vec.ofFn fun j => { Cavity.freed with charge := if chosen.get j then .awaitCharge else .empty } :=
    Vec.ext_get fun j => by
      rw [Vec.get_map, Vec.get_ofFn]
      cases chosen.get j <;> rfl
  rw [openedRow, hcav]

/-- The platen heats for a slot already: WARMING or READY on it (R34). -/
abbrev State.HeatsFor (s : State) (k : Fin 8) : Prop :=
  (s.regulator.platen = .warming ∨ s.regulator.platen = .ready) ∧ s.regulator.platenRecipe = some k

/-- The platen leaves READY for a slot: READY on another one (R34, R37). -/
abbrev State.LeavesReadyFor (s : State) (k : Fin 8) : Prop :=
  s.regulator.platen = .ready ∧ s.regulator.platenRecipe ≠ some k

theorem State.warmFor_eq (s : State) (k : Fin 8) :
    s.warmFor k = { s with
      rows := if s.LeavesReadyFor k then s.rows.map Row.clearPermit else s.rows
      regulator := { s.regulator with
        platen := if s.HeatsFor k then s.regulator.platen else .warming
        platenRecipe := some k
        dwell := if s.HeatsFor k then s.regulator.dwell else 0 }
      ports := { s.ports with
        press := if s.LeavesReadyFor k then s.ports.press.raise .platenNotReady else s.ports.press } } := by
  by_cases h : s.HeatsFor k
  · obtain ⟨hp, hr⟩ := h
    have hcond : ¬(s.regulator.platen = .off ∨ s.regulator.platen = .standby ∨
        s.regulator.platenRecipe ≠ some k) := by
      rcases hp with hp | hp <;> simp [hp, hr]
    have hleave : ¬s.LeavesReadyFor k := fun hl => hl.2 hr
    rw [State.warmFor, if_neg hcond]
    simp only [if_neg hleave, if_pos (And.intro hp hr), ← hr]
  · have hcond : s.regulator.platen = .off ∨ s.regulator.platen = .standby ∨
        s.regulator.platenRecipe ≠ some k := by
      cases hp : s.regulator.platen <;> simp_all
    have hleave : s.LeavesReadyFor k ↔ s.regulator.platen = .ready :=
      ⟨And.left, fun hp => ⟨hp, fun hr => h ⟨.inr hp, hr⟩⟩⟩
    rw [State.warmFor, if_pos hcond, State.enterPlaten_eq]
    simp only [hleave, if_neg h]

/-- A row after the permits of CHARGED rows are cleared, or not. -/
theorem get_clearPermit_if (rows : Vec Row 8) (c : Prop) [Decidable c] (m : Fin 8) :
    (if c then rows.map Row.clearPermit else rows).get m =
      { rows.get m with permit := (rows.get m).permit && !decide (c ∧ (rows.get m).state = .charged) } := by
  by_cases h : c
  · simp [h, Row.clearPermit_eq]
  · simp [h]

/-- The cavities that an OPEN_CYCLE of a slot enables (R11 step 2). -/
def State.chosenFor (s : State) (k : Fin 8) : Vec Bool 8 := lowestOf (s.recipeAt k).enabled (s.runs.get k).room

/-- The rows and the run table after the row is taken and its cavities reserved, before the platen step (R11, steps 1 to
4). -/
def State.rowTaken (s : State) (i k : Fin 8) (shot : Nat) : State :=
  { s with
    rows := s.rows.set i (openedRow shot k (s.liveRows + 1) s.clock (s.chosenFor k))
    runs := s.runs.set k { s.runs.get k with
      reserved := (s.runs.get k).reserved + (List.finRange 8).countP (s.chosenFor k).get } }

theorem State.openRow_eq (s : State) (i k : Fin 8) (shot : Nat) :
    s.openRow i k shot = ((((s.rowTaken i k shot).warmFor k).raise .charge .cycleOpened).stopIdle,
      ⟨.done, [.byte i.val, .byte ((List.finRange 8).countP (s.chosenFor k).get)]⟩) := by
  simp only [State.openRow, State.liveCount_eq, Vec.count_eq]
  rfl

theorem State.rowTaken_get_self (s : State) (i k : Fin 8) (shot : Nat) :
    (s.rowTaken i k shot).rows.get i = openedRow shot k (s.liveRows + 1) s.clock (s.chosenFor k) :=
  Vec.get_set_self _ _ _

theorem State.rowTaken_get_ne (s : State) {i m : Fin 8} (k : Fin 8) (shot : Nat) (h : m ≠ i) :
    (s.rowTaken i k shot).rows.get m = s.row m := Vec.get_set_ne _ _ h.symm

/-- An OPEN_CYCLE that passes R10 is accepted for the lowest-numbered FREE row. -/
theorem takeOpenCycle_accepted {s : State} {shot : Nat} {k i : Fin 8} (hnone : s.NamesNone shot)
    (hw : s.store.write.map WriteInFlight.slot ≠ some k) (hv : (s.store.slots.get k).validity = .valid)
    (hc : ∀ m, (s.row m).state ≠ .free → (s.row m).recipe = some k) (hm : (s.runs.get k).mode ≠ .unset)
    (hi : (s.row i).state = .free) (low : ∀ m, m < i → (s.row m).state ≠ .free)
    (hrun : (s.runs.get k).mode = .counted → (s.runs.get k).reserved < (s.runs.get k).remaining) :
    takeOpenCycle shot k.val s = s.openRow i k shot := by
  have hroom : ¬((s.runs.get k).mode = .counted ∧ (s.runs.get k).remaining - (s.runs.get k).reserved = 0) :=
    fun ⟨hcnt, h0⟩ => by have := hrun hcnt; omega
  rw [takeOpenCycle_eq hnone.1, if_neg (State.no_holder_of_namesNone hnone), if_neg hw, if_neg (not_not_intro hv),
    if_neg (State.no_conflict hc), if_neg hm, State.findFree_lowest hi low, Option.elim_some, if_neg hroom]

/-! ### The release of a row (R6, R8) -/

theorem State.enterReleasable_eq (s : State) (i : Fin 8) :
    s.enterReleasable i = { s with
      rows := s.rows.set i { s.row i with state := .releasable, rowTimer := none }
      ports := { s.ports with press := s.ports.press.raise .releasable } } := rfl

/-- A row is written and enters RELEASABLE in the same event. -/
theorem State.enterReleasable_setRow (s : State) (i : Fin 8) (r : Row) :
    (s.setRow i r).enterReleasable i = { s with
      rows := s.rows.set i { r with state := .releasable, rowTimer := none }
      ports := { s.ports with press := s.ports.press.raise .releasable } } := by
  rw [State.enterReleasable_eq, State.row_setRow_self, State.setRow_rows, Vec.set_set_self]
  rfl

theorem Cavity.timeOut_eq (c : Cavity) :
    c.timeOut = { c with cure := if c.cure = .curing then .timedOut else c.cure } := by
  unfold Cavity.timeOut
  split <;> rfl

/-! ### CLOSED (R17) -/

theorem Cavity.close_of_charged {c : Cavity} (h : c.charge = .charged) (permit : Bool) :
    c.close permit =
      { (if permit then c else c.giveNote .unpermittedClose 0) with tool := .inTool, cure := .curing, acc := 0 } := by
  simp [Cavity.close, h]

theorem Cavity.close_of_awaitCharge {c : Cavity} (h : c.charge = .awaitCharge) (permit : Bool) :
    c.close permit = { c with charge := .void } := by simp [Cavity.close, h]

theorem Cavity.close_of_noPart {c : Cavity} (h : c.charge = .empty ∨ c.charge = .void) (permit : Bool) :
    c.close permit = c := by
  rcases h with h | h <;> simp [Cavity.close, h]

/-- Exactly the part-bearing cavities bear a part after the close. -/
theorem Cavity.close_charge_iff (permit : Bool) (c : Cavity) :
    (c.close permit).charge = .charged ↔ c.charge = .charged := by
  cases h : c.charge with
  | charged => rw [Cavity.close_of_charged h]; cases permit <;> simp [h]
  | awaitCharge => simp [Cavity.close_of_awaitCharge h]
  | empty => simp [Cavity.close_of_noPart (.inl h), h]
  | void => simp [Cavity.close_of_noPart (.inr h), h]

theorem Cavity.close_cure_of_charged {c : Cavity} (h : c.charge = .charged) (permit : Bool) :
    (c.close permit).cure = .curing := by rw [Cavity.close_of_charged h]

@[simp] theorem Row.close_cavity (r : Row) (now : Clock) (maxCure : Nat) (j : Fin 8) :
    (r.close now maxCure).cavities.get j = (r.cavities.get j).close r.permit := by simp [Row.close]

/-- A row on which the press has just closed meets the release condition only where it bears no part: every part is
CURING. -/
theorem Row.close_released_iff (r : Row) (now : Clock) (maxCure : Nat) :
    (r.close now maxCure).released = true ↔ ∀ j, (r.cavities.get j).charge ≠ .charged := by
  rw [Row.released_iff]
  refine forall_congr' fun j => ?_
  rw [Row.close_cavity, Cavity.close_charge_iff]
  constructor
  · intro h hc
    have := h hc
    simp [Cavity.close_cure_of_charged hc] at this
  · exact fun h hc => absurd hc h

/-- The flag of a row that has just closed is clear already. -/
theorem Row.clearPermit_close (r : Row) (now : Clock) (maxCure : Nat) :
    (r.close now maxCure).clearPermit = r.close now maxCure := by simp [Row.clearPermit, Row.close]

/-- The release condition where it is evaluated on a row in CURING (R6). -/
theorem State.tryRelease_eq {s : State} {i : Fin 8} (h : (s.row i).state = .curing) :
    s.tryRelease i = if (s.row i).released then s.enterReleasable i else s := by simp [State.tryRelease, h]

/-- The state in which CLOSED evaluates the release condition of its row (R17, steps 1 to 6). -/
def State.pressClosed (s : State) (i k : Fin 8) : State :=
  { s with
    rows := (s.rows.map Row.clearPermit).set i ((s.row i).close s.clock (s.recipeAt k).maxCure)
    runs := s.runs.set k { s.runs.get k with
      reserved := (s.runs.get k).reserved - (List.finRange 8).countP fun j =>
        decide ((s.cavity i j).charge = .awaitCharge) }
    extraction := { s.extraction with
      uncleared := s.extraction.uncleared + (List.finRange 8).countP fun j =>
        decide ((s.cavity i j).charge = .charged) } }

@[simp] theorem State.pressClosed_row_self (s : State) (i k : Fin 8) :
    (s.pressClosed i k).row i = (s.row i).close s.clock (s.recipeAt k).maxCure := by
  simp [State.pressClosed, State.row]

theorem State.pressClosed_row_ne (s : State) {i m : Fin 8} (k : Fin 8) (h : m ≠ i) :
    (s.pressClosed i k).row m = (s.row m).clearPermit := by
  simp [State.pressClosed, State.row, Vec.get_set_ne _ _ h.symm]

theorem State.closeRow_eq {s : State} {i k : Fin 8} (hk : (s.row i).recipe = some k) :
    s.closeRow i = (s.pressClosed i k).tryRelease i := by
  have hrows : (s.rows.set i ((s.row i).close s.clock (s.recipeAt k).maxCure)).map Row.clearPermit =
      (s.rows.map Row.clearPermit).set i ((s.row i).close s.clock (s.recipeAt k).maxCure) :=
    Vec.ext_get fun m => by
      by_cases h : i = m
      · subst h
        simp [Row.clearPermit_close]
      · simp [Vec.get_set_ne _ _ h]
  simp only [State.closeRow, State.rowRecipe_of_some hk, hk, State.releaseReserved, State.modifyRun, State.setRow,
    hrows, Vec.count_eq]
  congr 1

/-- An accepted CLOSED, step 7 included: a row without a part is RELEASABLE at once, its row timer stopped (R17, R6). -/
theorem State.closeRow_released {s : State} {i k : Fin 8} (hk : (s.row i).recipe = some k) :
    let empty := ∀ j, (s.cavity i j).charge ≠ .charged
    s.closeRow i = { s.pressClosed i k with
      rows := (s.pressClosed i k).rows.set i { (s.row i).close s.clock (s.recipeAt k).maxCure with
        state := if empty then .releasable else .curing
        rowTimer := if empty then none else some ((s.recipeAt k).maxCure * 1000) }
      ports := { s.ports with press := if empty then s.ports.press.raise .releasable else s.ports.press } } := by
  intro empty
  have hcuring : ((s.pressClosed i k).row i).state = .curing := by rw [State.pressClosed_row_self]; rfl
  have hreleased : ((s.pressClosed i k).row i).released = true ↔ empty := by
    rw [State.pressClosed_row_self, Row.close_released_iff]
    rfl
  rw [State.closeRow_eq hk, State.tryRelease_eq hcuring]
  simp only [hreleased]
  by_cases h : empty
  · simp only [if_pos h, State.enterReleasable_eq, State.pressClosed_row_self]
    rfl
  · have hrow : (s.pressClosed i k).rows.set i ((s.row i).close s.clock (s.recipeAt k).maxCure) =
        (s.pressClosed i k).rows := by simp [State.pressClosed]
    simp only [if_neg h]
    exact congrArg (fun rows => { s.pressClosed i k with rows := rows }) hrow.symm

theorem State.closeRow_row_self {s : State} {i k : Fin 8} (hk : (s.row i).recipe = some k) :
    let empty := ∀ j, (s.cavity i j).charge ≠ .charged
    (s.closeRow i).row i = { (s.row i).close s.clock (s.recipeAt k).maxCure with
      state := if empty then .releasable else .curing
      rowTimer := if empty then none else some ((s.recipeAt k).maxCure * 1000) } := by
  rw [State.closeRow_released hk]
  exact Vec.get_set_self _ _ _

theorem State.closeRow_row_ne {s : State} {i k m : Fin 8} (hk : (s.row i).recipe = some k) (h : m ≠ i) :
    (s.closeRow i).row m = (s.row m).clearPermit := by
  rw [← State.pressClosed_row_ne s k h, State.closeRow_released hk]
  exact Vec.get_set_ne _ _ h.symm

theorem State.closeRow_cavity {s : State} {i k : Fin 8} (hk : (s.row i).recipe = some k) (j : Fin 8) :
    (s.closeRow i).cavity i j = (s.cavity i j).close (s.row i).permit := by
  rw [State.cavity, State.closeRow_row_self hk]
  exact Row.close_cavity (s.row i) s.clock (s.recipeAt k).maxCure j

/-- A CLOSED that fits the table is accepted (R16, R17). -/
theorem takeClosed_accepted {s : State} {shot : Nat} {i : Fin 8} (hn : s.Names shot i)
    (hs : (s.row i).state = .open_ ∨ (s.row i).state = .charged) (ho : ∀ m, m ≠ i → ¬(s.row m).Pressed) :
    takeClosed shot s = (s.closeRow i, .plain .done) := by
  have hother : s.anyOther i Row.inPress = false :=
    (s.anyOther_eq_false_iff i _).2 fun m hm => by
      rw [Bool.eq_false_iff, Ne, Row.inPress_iff]
      exact ho m hm
  have hstate : ¬((s.row i).state ≠ .open_ ∧ (s.row i).state ≠ .charged) := by tauto
  simp only [takeClosed, (shotOk_iff shot).2 hn.1, State.findShot_of_names hn, if_neg hstate, hother, if_true,
    Bool.false_eq_true, if_false]

/-! ### OPENED (R18) -/

theorem noteOffset_of_closed {r : Row} {t : Clock} (h : r.timeClosed = some t) (now : Clock) :
    noteOffset now r = min (elapsed now t / 1000) 65535 := by simp [noteOffset, h]

@[simp] theorem Cavity.forceOpen_charge (offset : Nat) (c : Cavity) : (c.forceOpen offset).charge = c.charge := by
  unfold Cavity.forceOpen; split <;> simp
@[simp] theorem Cavity.forceOpen_tool (offset : Nat) (c : Cavity) : (c.forceOpen offset).tool = c.tool := by
  unfold Cavity.forceOpen; split <;> simp
@[simp] theorem Cavity.forceOpen_record (offset : Nat) (c : Cavity) : (c.forceOpen offset).record = c.record := by
  unfold Cavity.forceOpen; split <;> simp

@[simp] theorem Row.openPress_cavity (r : Row) (now : Clock) (demouldLimit : Nat) (j : Fin 8) :
    (r.openPress now demouldLimit).cavities.get j = (r.cavities.get j).forceOpen (noteOffset now r) := by
  simp [Row.openPress]

/-- Forcing a cure decides nothing of the freeing condition (R22). -/
theorem Row.openPress_freeable_iff (r : Row) (now : Clock) (demouldLimit : Nat) :
    (r.openPress now demouldLimit).freeable = true ↔ ∀ j, ¬(r.cavities.get j).InTool ∧
      ((r.cavities.get j).record = .recorded ∨
        (r.cavities.get j).record = .notDue ∧ (r.cavities.get j).charge ≠ .charged) := by
  rw [Row.freeable_iff]
  simp [Row.openPress]

/-- An OPENED of a row in the closed press is accepted (R16, R18). -/
theorem takeOpened_accepted {s : State} {shot : Nat} {i : Fin 8} (hn : s.Names shot i) (hp : (s.row i).Pressed) :
    takeOpened shot s = (s.openPress i, .plain .done) := by
  simp only [takeOpened, (shotOk_iff shot).2 hn.1, State.findShot_of_names hn, (Row.inPress_iff _).2 hp, if_true]

/-- The state in which an accepted OPENED evaluates the freeing condition of its row (R18, steps 1 to 6). -/
def State.pressOpened (s : State) (i k : Fin 8) : State :=
  { s with
    rows := s.rows.set i ((s.row i).openPress s.clock (s.recipeAt k).demouldLimit)
    ports := { s.ports with extract := s.ports.extract.raise .pressOpened } }

@[simp] theorem State.pressOpened_row (s : State) (i k : Fin 8) :
    (s.pressOpened i k).row i = (s.row i).openPress s.clock (s.recipeAt k).demouldLimit := by
  simp [State.pressOpened, State.row]

theorem State.openPress_eq {s : State} {i k : Fin 8} (hk : (s.row i).recipe = some k) :
    s.openPress i = (s.pressOpened i k).tryFree i := by
  rw [State.openPress, State.rowRecipe_of_some hk]
  rfl

end Sys2Proof.Machine
end

section
open Sys2Proof Sys2Proof.Machine

/-- Settles O23: the row is taken and reserved for, then the platen warms for its slot. -/
theorem openCycleTakesTheLowestFreeRow : Obligations.OpenCycleTakesTheLowestFreeRow := by
  intro s shot k i hnone hw hv hc hm hi low hrun
  have hopen := State.openRow_eq s i k shot
  rw [State.warmFor_eq] at hopen
  refine ⟨(s.openRow i k shot).1.withReply .press (s.openRow i k shot).2, (s.chosenFor k).get, ?_⟩
  intro stays leaves n
  refine ⟨?exec, fun j => ?chosen, ?taken, fun m hne => ?others, ?runs, ?regulator, ?ports, ?frame⟩
  case exec =>
    rw [exec_openCycle, takeOpenCycle_accepted hnone hw hv hc hm hi low hrun]
    rfl
  case chosen => exact lowestOf_room_iff _ _ j
  all_goals rw [hopen]
  case taken =>
    refine (get_clearPermit_if _ (s.LeavesReadyFor k) i).trans ?_
    rw [State.rowTaken_get_self, openedRow_eq]
    rfl
  case others =>
    refine (get_clearPermit_if _ (s.LeavesReadyFor k) m).trans ?_
    rw [State.rowTaken_get_ne s k shot hne]
  all_goals rfl

/-- Settles O24: each check of R10, with those before it passed. -/
theorem openCycleRefusalsFollowTheirOrder : Obligations.OpenCycleRefusalsFollowTheirOrder := by
  intro s shot recipe answers
  have reply : ∀ code, takeOpenCycle shot recipe s = (s, .plain code) → answers code :=
    fun _ h => exec_openCycle_of_plain h
  refine ⟨fun h => reply _ ?malformed, fun k hk hshot => ?inRange⟩
  case malformed =>
    rcases h with rfl | h
    · simp [takeOpenCycle, shotOk_zero]
    · simp [takeOpenCycle, index8_eq_none h]
  case inRange =>
    subst hk
    simp only [takeOpenCycle_eq hshot] at reply
    refine ⟨fun hd => reply _ (if_pos hd), fun hnone => ?_⟩
    simp only [if_neg (State.no_holder_of_namesNone hnone)] at reply
    refine ⟨fun hw => reply _ (if_pos hw), fun hw => ?_⟩
    simp only [if_neg hw] at reply
    refine ⟨fun hv => reply _ (if_pos hv), fun hv => ?_⟩
    simp only [if_neg (not_not_intro hv)] at reply
    refine ⟨fun hc => reply _ (if_pos hc), fun hc => ?_⟩
    simp only [if_neg (State.no_conflict hc)] at reply
    refine ⟨fun hm => reply _ (if_pos hm), fun hm => ?_⟩
    simp only [if_neg hm] at reply
    refine ⟨fun hfull => reply _ ?full, fun ⟨m, hfree⟩ hcnt h0 => reply _ ?complete⟩
    case full => rw [State.findFree_eq_none hfull, Option.elim_none]
    case complete =>
      obtain ⟨i, hi⟩ := State.findFree_of_exists hfree
      rw [hi, Option.elim_some, if_pos ⟨hcnt, h0⟩]

/-- Settles O28: every part is CURING right after the close, so the release condition holds only without a part. -/
theorem closedStartsTheCure : Obligations.ClosedStartsTheCure := by
  intro s shot i k hn hk hs ho
  refine ⟨(s.closeRow i).withReply .press (.plain .done), ?exec, ?result⟩
  case exec =>
    rw [exec_closed, respond_eq, takeClosed_accepted hn hs ho]
    rfl
  case result =>
    refine ⟨fun j => ?cavity, ?row, fun m hm => ?others, ?runs, ?extraction, ?ports, ?frame⟩
    case cavity =>
      rw [State.cavity_withReply, State.closeRow_cavity hk]
      cases h : (s.cavity i j).charge with
      | charged => exact Cavity.close_of_charged h _
      | awaitCharge => exact Cavity.close_of_awaitCharge h _
      | empty => exact Cavity.close_of_noPart (.inl h) _
      | void => exact Cavity.close_of_noPart (.inr h) _
    case row =>
      rw [State.row_withReply, State.closeRow_row_self hk]
      rfl
    case others => rw [State.row_withReply, State.closeRow_row_ne hk hm, Row.clearPermit_eq]
    all_goals
      rw [State.closeRow_released hk]
      rfl

/-- Settles O30: forcing a cure leaves tool, record and charge alone, so the row as it was decides the freeing. -/
theorem openedEndsTheCure : Obligations.OpenedEndsTheCure := by
  intro s shot i k hn hk hp closedAt hclosed
  refine ⟨s.pressOpened i k, fun j => ?cavity, ?row, ?frame, ?result⟩
  case cavity =>
    rw [State.cavity, State.pressOpened_row, Row.openPress_cavity, noteOffset_of_closed hclosed]
    rfl
  case row => rw [State.pressOpened_row]; rfl
  case frame => rw [State.pressOpened_row]; rfl
  case result =>
    intro done
    have hfree : ((s.pressOpened i k).row i).freeable = true ↔ done := by
      rw [State.pressOpened_row, Row.openPress_freeable_iff]
      rfl
    rw [exec_opened, respond_eq, takeOpened_accepted hn hp, State.openPress_eq hk, State.tryFree]
    simp only [hfree]
    rfl

/-- Settles O32: the cavities time out, and the same event brings the row to RELEASABLE. -/
theorem maxCureExpiryTimesOut : Obligations.MaxCureExpiryTimesOut := by
  intro s i ms hstate htimer
  have hcav : (s.row i).cavities.map Cavity.timeOut = Vec.ofFn fun j => { s.cavity i j with
      cure := if (s.cavity i j).cure = .curing then .timedOut else (s.cavity i j).cure } :=
    Vec.ext_get fun j => by
      rw [Vec.get_map, Vec.get_ofFn, Cavity.timeOut_eq]
      rfl
  rw [exec_maxCureExpiry, execMaxCureExpiry, if_pos ⟨hstate, by simp [htimer]⟩, State.enterReleasable_setRow,
    Row.mapCavities, hcav]

end

section
/-! The platen's requests HEAT_ON (R32) and HEAT_OFF (R33): what each does with its parameters in their ranges, then the
statements. -/

namespace Sys2Proof.Machine

/-- A request that is answered by its code alone, the state left as it is. -/
theorem respond_plain {p : PortId} {t : State × Reply} {s : State} {code : ResultCode} (h : t = (s, .plain code)) :
    respond p t = .next { s with reply := some (p, ⟨code, []⟩) } := by
  rw [respond_eq, h]
  rfl

theorem exec_heatOn (recipe : Nat) (s : State) : exec (.heatOn recipe) s = respond .press (takeHeatOn recipe s) := rfl

theorem exec_heatOff (s : State) : exec .heatOff s = respond .press (takeHeatOff s) := rfl

/-! ### HEAT_ON (R32) -/

/-- An accepted HEAT_ON and an accepted OPEN_CYCLE take the same platen step (R32, R34). -/
theorem State.heatTo_eq_warmFor (s : State) (k : Fin 8) : s.heatTo k = s.warmFor k := by
  unfold State.heatTo State.warmFor
  cases hp : s.regulator.platen <;> by_cases hr : s.regulator.platenRecipe = some k <;> simp [hr]

/-- The idle timer starts afresh exactly where every row is FREE. -/
theorem State.tableEmptied_eq (s : State) :
    s.tableEmptied = { s with
      regulator := { s.regulator with
        idleTimer := if ∀ m, (s.row m).state = .free then some s.clock else s.regulator.idleTimer } } := by
  simp only [State.tableEmptied, State.allFree_iff]
  split <;> rfl

theorem State.warmFor_row (s : State) (k m : Fin 8) :
    (s.warmFor k).row m = { s.row m with
      permit := (s.row m).permit && !decide (s.LeavesReadyFor k ∧ (s.row m).state = .charged) } := by
  rw [State.warmFor_eq]
  exact get_clearPermit_if _ _ _

/-- HEAT_ON with a slot number in its range: R32's conditions in their order, then the platen step and the idle timer. -/
theorem takeHeatOn_eq (k : Fin 8) (s : State) :
    takeHeatOn k.val s =
      if ∃ m, (s.row m).state ≠ .free ∧ (s.row m).recipe ≠ some k then (s, .plain .recipeConflict)
      else if s.store.write.map WriteInFlight.slot = some k then (s, .plain .busy)
      else if (s.store.slots.get k).validity ≠ .valid then (s, .plain .recipeInvalid)
      else ((s.warmFor k).tableEmptied, .plain .done) := by
  simp only [takeHeatOn, index8_val, State.conflictsWith_iff, State.writingTo_iff, State.heatTo_eq_warmFor]

/-! ### HEAT_OFF (R33) -/

/-- The platen enters OFF: every heater off at once, no recipe, and R37's consequences of leaving READY. -/
theorem State.enterOff_eq (s : State) :
    s.enterOff = { s with
      rows := if s.regulator.platen = .ready then s.rows.map Row.clearPermit else s.rows
      regulator := { s.regulator with
        zones := s.regulator.zones.map fun z => { z with duty := 0, integral := 0 }
        platen := .off
        platenRecipe := none
        dwell := 0 }
      firing := { s.firing with zones := s.firing.zones.map FiringZone.dropped }
      ports := { s.ports with
        press := if s.regulator.platen = .ready then s.ports.press.raise .platenNotReady else s.ports.press } } := by
  simp only [State.enterOff, State.enterPlaten_eq]

theorem State.anyInPress_iff (s : State) : s.rows.any Row.inPress = true ↔ ∃ m, (s.row m).Pressed := by
  simp only [Vec.any_iff, Row.inPress_iff]
  rfl

theorem takeHeatOff_eq (s : State) :
    takeHeatOff s =
      if ∃ m, (s.row m).Pressed then (s, .plain .busy)
      else if s.regulator.platen = .off then (s, .plain .done)
      else (s.enterOff, .plain .done) := by
  simp only [takeHeatOff, State.anyInPress_iff]

end Sys2Proof.Machine
end

section
open Sys2Proof Sys2Proof.Machine

/-- Settles O35: each check of R32, with those before it passed; the accepted request takes OPEN_CYCLE's platen step. -/
theorem heatOnWarmsThePlaten : Obligations.HeatOnWarmsThePlaten := by
  intro s recipe answers
  have reply : ∀ code, takeHeatOn recipe s = (s, .plain code) → answers code :=
    fun _ h => respond_plain h
  refine ⟨fun h => reply _ (by rw [takeHeatOn, index8_eq_none h]), fun k hk => ?inRange⟩
  subst hk
  have heat := takeHeatOn_eq k s
  simp only [heat] at reply
  refine ⟨fun hc => reply _ (if_pos hc), fun hc => ?_⟩
  simp only [if_neg (State.no_conflict hc)] at reply heat
  refine ⟨fun hw => reply _ (if_pos hw), fun hw => ?_⟩
  simp only [if_neg hw] at reply heat
  refine ⟨fun hv => reply _ (if_pos hv), fun hv => ?accepted⟩
  rw [if_neg (not_not_intro hv)] at heat
  refine ⟨(s.warmFor k).tableEmptied.withReply .press (.plain .done), ?exec, ?result⟩
  case exec =>
    rw [exec_heatOn, heat]
    rfl
  case result =>
    have hfree : (∀ m, ((s.warmFor k).row m).state = .free) ↔ ∀ m, (s.row m).state = .free := by
      simp only [State.warmFor_row]
    have table := State.tableEmptied_eq (s.warmFor k)
    simp only [hfree] at table
    intro stays leaves
    refine ⟨?regulator, fun m => ?row, ?frame⟩
    case row =>
      rw [table]
      exact s.warmFor_row k m
    all_goals
      rw [table, State.warmFor_eq]
      rfl

/-- Settles O36: what entering OFF does to the zones and the allocator, entry by entry. -/
theorem heatOffTurnsEverythingOff : Obligations.HeatOffTurnsEverythingOff := by
  intro s
  have off := takeHeatOff_eq s
  refine ⟨fun hp => respond_plain (off.trans (if_pos hp)), fun hp => ?_⟩
  rw [if_neg (not_exists.2 hp)] at off
  refine ⟨fun h => respond_plain (off.trans (if_pos h)), fun h => ?_⟩
  rw [if_neg h] at off
  refine ⟨s.enterOff.withReply .press (.plain .done), ?exec, fun m => ?row, fun z => ?zone, fun z => ?firing, ?frame⟩
  case exec =>
    rw [exec_heatOff, off]
    rfl
  all_goals rw [State.enterOff_eq]
  case row => exact s.leaveReady_row m
  case zone => exact Vec.get_map _ _ _
  case firing => exact Vec.get_map _ _ _
  case frame => rfl
end

section
/-! The zone regulator: the age test and the setpoints of a frame start (R29, R30), the duty computation (R43 to R47), and
the samples (R26, R27, R86). -/

namespace Sys2Proof.Machine

theorem exec_frameStart (s : State) : exec .frameStart s = execFrameStart s := rfl

/-! ### The zones at a frame start (R29, R30, R42) -/

theorem Zone.goesStale_iff (now : Clock) (staleMs : Nat) (z : Zone) :
    z.goesStale now staleMs = true ↔
      z.sensor = .ok ∧ ∃ at_, z.arrival = some at_ ∧ staleMs < elapsed now at_ := by
  unfold Zone.goesStale Zone.tooOld
  cases z.arrival <;> simp

/-- The age test writes sensor states, and sets the fault flag where it writes one (R29). -/
theorem State.ageTest_eq (s : State) :
    s.ageTest = { s with
      regulator := { s.regulator with
        zones := s.regulator.zones.map fun z =>
          if z.goesStale s.clock s.settings.sampleStaleMs then { z with sensor := .stale } else z }
      streamer := { s.streamer with
        fault := s.streamer.fault || s.regulator.zones.any (Zone.goesStale s.clock s.settings.sampleStaleMs) } } := by
  unfold State.ageTest
  cases h : s.regulator.zones.any (Zone.goesStale s.clock s.settings.sampleStaleMs) <;> simp [h, State.setFault]

/-- The setpoint that R30 gives a zone whose platen recipe is in slot `k`. -/
theorem State.setpointFor_eq {s : State} {k : Fin 8} (h : s.regulator.platen ≠ .off → s.regulator.platenRecipe = some k)
    (z : Fin 12) :
    setpointFor s.regulator.platen (s.platenRecipeFields.setpoint.get z) s.settings.setback =
      setpointFor s.regulator.platen ((s.recipeAt k).setpoint.get z) s.settings.setback := by
  by_cases hp : s.regulator.platen = .off
  · simp only [hp, setpointFor]
  · rw [State.platenRecipeFields, h hp]

/-- The duty computation writes duty and integral alone. -/
theorem Zone.computeDuty_frame (r : Recipe) (i : Fin 12) (z : Zone) :
    z.computeDuty r i = { z with duty := (z.computeDuty r i).duty, integral := (z.computeDuty r i).integral } := by
  unfold Zone.computeDuty
  split
  · rfl
  · split
    · rfl
    · split
      · rfl
      · split <;> rfl

theorem State.closeFrame_zone (s : State) (z : Fin 12) :
    s.closeFrame.regulator.zones.get z =
      if s.firing.slot.isSome then (s.regulator.zones.get z).addShortfall (s.firing.zones.get z).owed
      else s.regulator.zones.get z := by
  have notes (u : State) : u.shortfallNotes.regulator = u.regulator := rfl
  unfold State.closeFrame
  split
  · simp only [apply_ite State.regulator, notes, ite_self, Vec.get_mapIdx]
  · rfl

theorem State.openFrame_regulator (s : State) : s.openFrame.regulator = s.regulator := rfl

theorem State.readyTest_zones (s : State) : s.readyTest.regulator.zones = s.regulator.zones := by
  unfold State.readyTest
  split
  · split
    · simp only [apply_ite State.regulator, apply_ite Regulator.zones, State.raise_regulator, ite_self]
    · rfl
  · simp only [apply_ite State.regulator, apply_ite Regulator.zones, State.setWarning_regulator, State.enterPlaten_eq,
      ite_self]
  · rfl
  · rfl

/-- A zone record that a frame start has made ready for the duty computation: aged, and with its new setpoint (R29,
R30). -/
def State.zoneForDuty (s : State) (z : Fin 12) : Zone :=
  let old := s.regulator.zones.get z
  { old with
    sensor := if old.goesStale s.clock s.settings.sampleStaleMs then .stale else old.sensor
    setpoint := setpointFor s.regulator.platen (s.platenRecipeFields.setpoint.get z) s.settings.setback }

theorem State.setSetpoints_zone (s : State) (z : Fin 12) :
    s.ageTest.setSetpoints.regulator.zones.get z = s.zoneForDuty z := by
  rw [State.ageTest_eq]
  simp only [State.setSetpoints, Vec.get_mapIdx, Vec.get_map, State.zoneForDuty]
  split <;> rfl

theorem State.computeDuties_zone (s : State) (z : Fin 12) :
    s.computeDuties.regulator.zones.get z =
      (s.regulator.zones.get z).computeDuty s.platenRecipeFields z := Vec.get_mapIdx _ _ _

/-- A zone record after a frame start: aged, its setpoint set, its duty computed, and the shortfall of the frame that closes
written into it (R42). -/
theorem State.frameStart_zone (s : State) (z : Fin 12) :
    s.ageTest.setSetpoints.computeDuties.closeFrame.openFrame.readyTest.regulator.zones.get z =
      let w := (s.zoneForDuty z).computeDuty s.platenRecipeFields z
      if s.firing.slot.isSome then w.addShortfall (s.firing.zones.get z).owed else w := by
  rw [State.readyTest_zones, State.openFrame_regulator, State.closeFrame_zone, State.computeDuties_zone,
    State.setSetpoints_zone, State.ageTest_eq]
  rfl

/-- Duty computation and close leave what a zone senses, and its setpoint, alone. -/
theorem State.frameStart_zone_sensed (s : State) (z : Fin 12) :
    let w := s.ageTest.setSetpoints.computeDuties.closeFrame.openFrame.readyTest.regulator.zones.get z
    w.reading = (s.zoneForDuty z).reading ∧ w.arrival = (s.zoneForDuty z).arrival ∧
      w.sensor = (s.zoneForDuty z).sensor ∧ w.setpoint = (s.zoneForDuty z).setpoint := by
  rw [State.frameStart_zone, Zone.computeDuty_frame]
  split <;> exact ⟨rfl, rfl, rfl, rfl⟩

/-! ### The duty of a zone (R43 to R47) -/

/-- A clamp written as a maximum of a minimum, in the words of its three cases. -/
theorem toNat_clamp_eq {high : Int} (h : 0 ≤ high) (n : Int) :
    ((max 0 (min high n)).toNat : Int) = if n < 0 then 0 else if n > high then high else n := by
  split_ifs <;> omega

theorem integralHeld_iff (raw : Int) (maxDuty : Nat) (e : Int) :
    integralHeld raw maxDuty e = true ↔ raw > maxDuty ∧ e > 0 ∨ raw < 0 ∧ e < 0 := by
  simp [integralHeld]

theorem nextIntegral_eq (kp ki maxDuty integral : Nat) (e : Int) :
    let raw := rawDuty kp ki integral e
    let candidate := candidateIntegral ki integral e
    (nextIntegral kp ki maxDuty integral e : Int) =
      if raw > maxDuty ∧ e > 0 ∨ raw < 0 ∧ e < 0 then (integral : Int)
      else if candidate < 0 then 0 else if candidate > 10000 then 10000 else candidate := by
  intro raw candidate
  simp only [nextIntegral, integralHeld_iff, apply_ite Nat.cast,
    toNat_clamp_eq (show (0 : Int) ≤ 10000 by decide)]
  rfl

theorem Zone.computeDuty_of_setpoint_zero {z : Zone} (h : z.setpoint = 0) (r : Recipe) (i : Fin 12) :
    z.computeDuty r i = { z with duty := 0, integral := 0 } := by
  simp [Zone.computeDuty, h]

theorem Zone.computeDuty_of_sensor_lost {z : Zone} (hs : z.setpoint ≠ 0) (h : z.sensor ≠ .ok) (r : Recipe)
    (i : Fin 12) : z.computeDuty r i = { z with duty := r.fallbackDuty.get i } := by
  simp [Zone.computeDuty, hs, h]

theorem Zone.computeDuty_of_reading {z : Zone} {t : Int} (hs : z.setpoint ≠ 0) (hok : z.sensor = .ok)
    (ht : z.reading = some t) (r : Recipe) (i : Fin 12) :
    z.computeDuty r i =
      if t > z.setpoint + r.cutbackBand then { z with duty := 0 } else z.regulate r (r.maxDuty.get i) t := by
  simp [Zone.computeDuty, hs, hok, ht]

/-! ### Samples (R26, R27, R86) -/

theorem exec_sampleArrival (channel : Nat) (value : BitVec 16) (s : State) :
    exec (.sampleArrival channel value) s = execSampleArrival channel value s := rfl

/-- A sample value that counts as a valid reading (R27). -/
abbrev ValidSample (value : BitVec 16) : Prop :=
  value ≠ 0x7FFF#16 ∧ -500 ≤ value.toInt ∧ value.toInt ≤ 4500

theorem sampleClass_eq (value : BitVec 16) :
    sampleClass value = if ValidSample value then .ok else if value = 0x7FFF#16 then .open_ else .range := by
  unfold sampleClass
  by_cases h : value = 0x7FFF#16 <;> simp [h, ValidSample]

theorem sampleClass_eq_ok_iff (value : BitVec 16) : sampleClass value = .ok ↔ ValidSample value := by
  rw [sampleClass_eq]
  split_ifs with hv
  · exact iff_of_true rfl hv
  · exact iff_of_false (by decide) hv
  · exact iff_of_false (by decide) hv

/-- A zone sample writes the zone record, and sets the fault flag where an OK zone is lost. -/
theorem State.zoneSample_eq (s : State) (i : Fin 12) (value : BitVec 16) :
    s.zoneSample i value = { s with
      regulator := { s.regulator with
        zones := s.regulator.zones.set i ((s.regulator.zones.get i).sample s.clock value) }
      streamer := { s.streamer with
        fault := s.streamer.fault || decide ((s.regulator.zones.get i).sensor = .ok ∧ sampleClass value ≠ .ok) } } := by
  unfold State.zoneSample
  by_cases h : (s.regulator.zones.get i).sensor = .ok ∧ sampleClass value ≠ .ok
  · simp only [if_pos h, decide_eq_true h, Bool.or_true]
    rfl
  · simp only [if_neg h, decide_eq_false h, Bool.or_false]
    rfl

theorem State.panSample_of_no_run {s : State} (h : s.weigh.run = none) (value : Nat) :
    s.panSample value = { s with weigh := { s.weigh with pan := some value } } := by
  simp [State.panSample, h]

theorem execSampleArrival_zone (z : Fin 12) (value : BitVec 16) (s : State) :
    execSampleArrival z.val value s = .next (s.zoneSample z value) := by
  simp [execSampleArrival, z.isLt]

theorem execSampleArrival_beyond {channel : Nat} (h : 12 < channel) (value : BitVec 16) (s : State) :
    execSampleArrival channel value s = .next s.sampleError := by
  simp [execSampleArrival, show ¬channel < 12 by omega, show channel ≠ 12 by omega]

end Sys2Proof.Machine
end

section
open Sys2Proof Sys2Proof.Machine

/-- Settles O38: of the frame start's steps only the age test and the setpoints write these fields of a zone. -/
theorem frameStartAgesAndSetsSetpoints : Obligations.FrameStartAgesAndSetsSetpoints := by
  intro s k hk
  refine ⟨_, exec_frameStart s, fun z => ?_⟩
  obtain ⟨hreading, harrival, hsensor, hsetpoint⟩ :=
    State.frameStart_zone_sensed { s with firing := { s.firing with frameTimer := Config.framePeriod } } z
  refine ⟨hreading, harrival, hsensor.trans ?sensor, hsetpoint.trans ?setpoint⟩
  case sensor =>
    simp only [← Zone.goesStale_iff]
    rfl
  case setpoint =>
    refine (s.setpointFor_eq hk z).trans ?_
    cases s.regulator.platen <;> rfl

/-- Settles O39: the branches of the duty computation, one by one. -/
theorem dutyFollowsTheRegulationRules : Obligations.DutyFollowsTheRegulationRules := by
  intro r i z reading w e raw
  refine ⟨z.computeDuty_frame r i, fun h0 => ?unheated, fun h0 => ⟨fun hlost => ?lost, fun hok ht => ?reading⟩⟩
  case unheated => simp [w, Zone.computeDuty_of_setpoint_zero h0]
  case lost => simp [w, Zone.computeDuty_of_sensor_lost h0 hlost]
  case reading =>
    have hw : w = _ := Zone.computeDuty_of_reading h0 hok ht r i
    refine ⟨fun hcut => ?cutback, fun hle => ?regulated⟩
    case cutback => simp [hw, hcut]
    case regulated =>
      rw [if_neg (not_lt.2 hle)] at hw
      rw [hw]
      exact ⟨toNat_clamp_eq (Int.natCast_nonneg _) _, nextIntegral_eq _ _ _ _ _⟩

/-- Settles O47: one channel range after the other. -/
theorem samplesAreRoutedAndClassified : Obligations.SamplesAreRoutedAndClassified := by
  intro s value
  refine ⟨fun z => ?zone, fun hrun => ?pan, fun channel hc => ?beyond⟩
  case zone =>
    intro old valid
    have hok : sampleClass value = .ok ↔ valid := sampleClass_eq_ok_iff value
    rw [exec_sampleArrival, execSampleArrival_zone, State.zoneSample_eq]
    simp only [Zone.sample, ne_eq, hok]
    rw [sampleClass_eq]
  case pan => exact congrArg Host.Outcome.next (State.panSample_of_no_run hrun _)
  case beyond => exact execSampleArrival_beyond hc value s
end

section
/-! The recipe store: the completion of a write (R40, R150), RECIPE_WRITE (R147) and UNLOCK_STORE (R152). -/

namespace Sys2Proof.Machine

/-! ### The completion of a recipe write (R40, R150) -/

theorem exec_recipeWriteComplete (strap : Bool) (s : State) :
    exec (.recipeWriteComplete strap) s = execRecipeWriteComplete strap s := rfl

/-- A platen whose recipe has been rewritten is sent to WARMING with the idle timer afresh; any other is left alone (R40). -/
theorem State.rereadPlaten_eq (s : State) (k : Fin 8) :
    let platen := s.regulator.platenRecipe = some k
    let leaves := platen ∧ s.regulator.platen = .ready
    s.rereadPlaten k = { s with
      rows := if leaves then s.rows.map Row.clearPermit else s.rows
      regulator := { s.regulator with
        platen := if platen then .warming else s.regulator.platen
        dwell := if platen then 0 else s.regulator.dwell
        idleTimer := if platen then some s.clock else s.regulator.idleTimer }
      ports := { s.ports with
        press := if leaves then s.ports.press.raise .platenNotReady else s.ports.press } } := by
  intro platen leaves
  by_cases h : platen
  · have hleaves : leaves ↔ s.regulator.platen = .ready := and_iff_right h
    simp only [State.rereadPlaten, if_pos (show s.regulator.platenRecipe = some k from h), State.enterPlaten_eq,
      hleaves, if_pos h, State.startIdle]
    rw [show s.regulator.platenRecipe = some k from h]
  · have hleaves : ¬leaves := fun hl => h hl.1
    simp only [State.rereadPlaten, if_neg (show ¬s.regulator.platenRecipe = some k from h), if_neg hleaves, if_neg h]

/-- The store after a completed write: the recipe with its check in the slot, and the lock by the strap (R150, R152). -/
def Store.completed (st : Store) (w : WriteInFlight) (strap : Bool) : Store where
  slots := st.slots.set w.slot
    { image := .written w.recipe (Config.recipeCheck w.recipe.toBytes), validity := .valid }
  lock := if strap then .locked else st.lock
  write := none

theorem State.completeWrite_eq (s : State) (w : WriteInFlight) (strap : Bool) :
    s.completeWrite w strap =
      { s with
        pins := { s.pins with strap := strap }
        store := s.store.completed w strap
        ports := { s.ports with records := s.ports.records.raise .storeDone } }.rereadPlaten w.slot := by
  simp only [State.completeWrite, State.rereadPlaten_eq]
  cases strap <;> rfl

/-! ### RECIPE_WRITE (R147) -/

theorem exec_recipeWrite (payload : List Byte) (s : State) :
    exec (.recipeWrite payload) s = respond .records (takeRecipeWrite payload s) := rfl

/-- A row that is not FREE names the slot. -/
theorem State.slotInUse_iff (s : State) (k : Fin 8) :
    (s.rows.any fun r => r.live && r.recipe == some k) = true ↔
      ∃ m, (s.row m).state ≠ .free ∧ (s.row m).recipe = some k := by
  simp [Vec.any_iff, State.row]

theorem index8_eq_some {n : Nat} {k : Fin 8} (h : n = k.val) : index8 n = some k := h ▸ index8_val k

/-- RECIPE_WRITE of a payload of the right size with a slot number in its range: R147's conditions in their order. -/
theorem takeRecipeWrite_eq {slot : Byte} {k : Fin 8} {body : List Byte} (hlen : body.length = 213)
    (hk : slot.toNat = k.val) (s : State) :
    takeRecipeWrite (slot :: body) s =
      if s.store.lock = .locked then (s, .plain .locked)
      else if s.store.write.isSome then (s, .plain .busy)
      else if ∃ m, (s.row m).state ≠ .free ∧ (s.row m).recipe = some k then (s, .plain .inUse)
      else (Recipe.ofBytes body).firstFailure.elim
        ({ s with store := { s.store with
            write := some { slot := k, accepted := s.clock, recipe := Recipe.ofBytes body } } }, .plain .started)
        fun f => (s, ⟨.recipeRejected, [.byte f.1, .byte f.2]⟩) := by
  simp only [takeRecipeWrite, index8_eq_some hk, hlen, ne_eq, not_true_eq_false, if_false, State.slotInUse_iff]
  cases (Recipe.ofBytes body).firstFailure <;> rfl

theorem takeRecipeWrite_of_length {payload : List Byte} (h : payload.length ≠ 214) (s : State) :
    takeRecipeWrite payload s = (s, .plain .malformed) := by
  cases payload with
  | nil => rfl
  | cons slot body =>
    have hbody : body.length ≠ 213 := fun hb => h (by rw [List.length_cons, hb])
    simp only [takeRecipeWrite, if_pos hbody]
    cases index8 slot.toNat <;> rfl

theorem takeRecipeWrite_of_slot {slot : Byte} (h : 7 < slot.toNat) (body : List Byte) (s : State) :
    takeRecipeWrite (slot :: body) s = (s, .plain .malformed) := by
  simp only [takeRecipeWrite, index8_eq_none h]

theorem takeUnlockStore_eq (s : State) :
    takeUnlockStore s =
      if ∀ m, (s.row m).state = .free then ({ s with store := { s.store with lock := .unlocked } }, .plain .done)
      else (s, .plain .inUse) := by
  simp only [takeUnlockStore, State.allFree_iff]

end Sys2Proof.Machine
end

section
open Sys2Proof Sys2Proof.Machine

/-- Settles O58: the checks of R147 in their order, then the completion step by step, then the lock. -/
theorem recipeWriteProgramsTheSlot : Obligations.RecipeWriteProgramsTheSlot := by
  intro s answers
  refine ⟨fun payload h => respond_plain (takeRecipeWrite_of_length h s),
    fun slot body _ h => respond_plain (takeRecipeWrite_of_slot h body s),
    fun slot k body hlen hk => ?write, fun strap w hw => ?complete, rfl, fun hfree => ?unlock, fun hused => ?inUse⟩
  case write =>
    intro c
    have take := takeRecipeWrite_eq hlen hk s
    refine ⟨fun hl => respond_plain (take.trans (if_pos hl)), fun hl => ?_⟩
    rw [if_neg (by simp [hl])] at take
    refine ⟨fun hw => respond_plain (take.trans (if_pos (Option.isSome_iff_ne_none.2 hw))), fun hw => ?_⟩
    rw [if_neg (by simp [hw])] at take
    refine ⟨fun hu => respond_plain (take.trans (if_pos hu)), fun hu => ?_⟩
    rw [if_neg fun ⟨m, hm, hr⟩ => hu m hm hr] at take
    refine ⟨fun f hf => ?rejected, fun hf => ?started⟩
    all_goals
      rw [hf] at take
      rw [exec_recipeWrite, take]
      rfl
  case complete =>
    have hcomplete := s.completeWrite_eq w strap
    rw [State.rereadPlaten_eq] at hcomplete
    refine ⟨s.completeWrite w strap, ?exec, ?result⟩
    case exec => rw [exec_recipeWriteComplete, execRecipeWriteComplete, hw]
    case result =>
      intro platen leaves
      rw [hcomplete]
      exact ⟨fun m => get_clearPermit_if _ _ m, rfl⟩
  case unlock => exact congrArg (respond .records) ((takeUnlockStore_eq s).trans (if_pos hfree))
  case inUse =>
    refine respond_plain ((takeUnlockStore_eq s).trans (if_neg fun hfree => ?_))
    obtain ⟨m, hm⟩ := hused
    exact hm (hfree m)
end

section
/-! The settings record (R167, R168), the run table (R154) and the readback queue (R139): the bytes of a settings write and the
list of entries that they carry, the value that an entry applies, then the three requests. -/

namespace Sys2Proof.Machine

theorem exec_settingsWrite (payload : List Byte) (s : State) :
    exec (.settingsWrite payload) s = respond .records (takeSettingsWrite payload s) := rfl

/-! ### Numbers in two bytes (R157) -/

theorem read2_lt (hi lo : Byte) : read2 hi lo < 65536 := by
  have := hi.isLt
  have := lo.isLt
  unfold read2
  omega

theorem wordAt_lt (l : List Byte) (i : Nat) : wordAt l i < 65536 := read2_lt _ _

theorem wordAt_be2 {n : Nat} (h : n < 65536) : wordAt (be2 n) 0 = n := by
  simp only [wordAt, be2, read2, List.getD_cons_zero, List.getD_cons_succ, BitVec.toNat_ofNat]
  omega

theorem be2_read2 (hi lo : Byte) : be2 (read2 hi lo) = [hi, lo] := by
  have := hi.isLt
  have := lo.isLt
  have hhi : BitVec.ofNat 8 (read2 hi lo / 256) = hi := by
    apply BitVec.eq_of_toNat_eq
    rw [BitVec.toNat_ofNat, read2]
    omega
  have hlo : BitVec.ofNat 8 (read2 hi lo) = lo := by
    apply BitVec.eq_of_toNat_eq
    rw [BitVec.toNat_ofNat, read2]
    omega
  rw [be2, hhi, hlo]

theorem be2_wordAt {l : List Byte} (h : l.length = 2) : be2 (wordAt l 0) = l := by
  obtain ⟨hi, lo, rfl⟩ := List.length_eq_two.1 h
  exact be2_read2 hi lo

theorem be2_inj {m n : Nat} (hm : m < 65536) (hn : n < 65536) : be2 m = be2 n ↔ m = n :=
  ⟨fun h => by rw [← wordAt_be2 hm, h, wordAt_be2 hn], fun h => h ▸ rfl⟩

/-! ### Items (R138) -/

theorem isItem_iff (n : Nat) : isItem n = true ↔ n ≤ 11 ∨ (16 ≤ n ∧ n ≤ 27) ∨ (32 ≤ n ∧ n ≤ 43) := by
  simp only [isItem, inRange, Bool.or_eq_true, Bool.and_eq_true, decide_eq_true_eq]
  omega

/-- Two bytes carry an item id, read from them or written into them. -/
theorem isItem_wordAt_iff {l : List Byte} (h : l.length = 2) :
    isItem (wordAt l 0) = true ↔ ∃ n, isItem n = true ∧ l = be2 n := by
  constructor
  · exact fun hi => ⟨_, hi, (be2_wordAt h).symm⟩
  · rintro ⟨n, hi, rfl⟩
    have := (isItem_iff n).1 hi
    rwa [wordAt_be2 (by omega)]

/-! ### Ranks (R168, order 2) -/

/-- Twelve values that hold each rank once are the twelve ranks in some order. -/
theorem isPermutation12_iff_perm (l : List Byte) (h : l.length = 12) :
    isPermutation12 l = true ↔ (l.map BitVec.toNat).Perm (List.range 12) := by
  have count (r : Nat) : l.countP (fun b => b.toNat == r) = (l.map BitVec.toNat).count r := by
    rw [List.count, List.countP_map]
    rfl
  simp only [isPermutation12, List.all_eq_true, decide_eq_true_eq, count]
  constructor
  · intro hone
    have hsub : List.range 12 ⊆ l.map BitVec.toNat := fun r hr => List.count_pos_iff.1 (by rw [hone r hr]; decide)
    refine ((List.nodup_range.subperm hsub).perm_of_length_le ?_).symm
    simp [h]
  · intro hp r hr
    rw [hp.count_eq, List.count_eq_one_of_mem List.nodup_range hr]

theorem isPermutation12_iff {l : List Byte} (h : l.length = 12) :
    isPermutation12 l = true ↔ l.Nodup ∧ ∀ b ∈ l, b.toNat ≤ 11 := by
  have hinj : Function.Injective (BitVec.toNat : Byte → Nat) := fun _ _ => BitVec.eq_of_toNat_eq
  rw [isPermutation12_iff_perm l h, ← List.nodup_map_iff hinj]
  constructor
  · refine fun hp => ⟨hp.nodup_iff.2 List.nodup_range, fun b hb => ?_⟩
    have := List.mem_range.1 (hp.mem_iff.1 (List.mem_map_of_mem hb))
    omega
  · rintro ⟨hn, hb⟩
    refine (hn.subperm fun r hr => ?_).perm_of_length_le (by simp [h])
    obtain ⟨b, hmem, rfl⟩ := List.mem_map.1 hr
    exact List.mem_range.2 (Nat.lt_succ_of_le (hb b hmem))

/-! ### The entries of a settings write (R168) -/

/-- An entry whose field number and size are those of R167. -/
def EntrySized (e : Nat × List Byte) : Prop :=
  1 ≤ e.1 ∧ e.1 ≤ 20 ∧ e.2.length = if e.1 = 3 ∨ e.1 = 4 then 12 else 2

/-- What orders 2 and 3 of R168 ask of an entry: FIRING_RANK holds each rank once, AUTO_A and AUTO_B an item id. -/
def EntryContent (e : Nat × List Byte) : Prop :=
  (e.1 = 3 → e.2.Nodup ∧ ∀ b ∈ e.2, b.toNat ≤ 11) ∧
  (e.1 = 19 ∨ e.1 = 20 → ∃ n, isItem n = true ∧ e.2 = be2 n)

/-- A list of entries that passes the checks of R168. -/
def EntriesPass (es : List (Nat × List Byte)) : Prop :=
  es ≠ [] ∧ (es.map Prod.fst).Nodup ∧ ∀ e ∈ es, EntrySized e ∧ EntryContent e

theorem EntriesPass.sized {es : List (Nat × List Byte)} (h : EntriesPass es) : ∀ e ∈ es, EntrySized e := by
  obtain ⟨-, -, hpass⟩ := h
  exact fun e he => (hpass e he).1

/-- The payload bytes of a list of entries: each field number, then its value. -/
def entriesBytes (es : List (Nat × List Byte)) : List Byte := es.flatMap fun e => BitVec.ofNat 8 e.1 :: e.2

theorem entriesBytes_cons (e : Nat × List Byte) (es : List (Nat × List Byte)) :
    entriesBytes (e :: es) = BitVec.ofNat 8 e.1 :: (e.2 ++ entriesBytes es) := rfl

theorem length_le_length_entriesBytes (es : List (Nat × List Byte)) : es.length ≤ (entriesBytes es).length := by
  induction es with
  | nil => exact Nat.le_refl _
  | cons e es ih =>
    rw [entriesBytes_cons]
    simp only [List.length_cons, List.length_append]
    omega

theorem EntrySized.length_two {e : Nat × List Byte} (h : EntrySized e) (h3 : e.1 ≠ 3) (h4 : e.1 ≠ 4) :
    e.2.length = 2 := by rw [h.2.2, if_neg (by tauto)]

theorem entryOk_iff {e : Nat × List Byte} (h : EntrySized e) : entryOk e = true ↔ EntryContent e := by
  unfold entryOk EntryContent
  by_cases h3 : e.1 = 3
  · have h12 : e.2.length = 12 := by rw [h.2.2, if_pos (.inl h3)]
    simp [h3, isPermutation12_iff h12]
  · by_cases hauto : e.1 = 19 ∨ e.1 = 20
    · have h2 : e.2.length = 2 := h.length_two h3 (by omega)
      simp [h3, hauto, isItem_wordAt_iff h2]
    · simp [h3, hauto]

/-- What is split off a payload has the numbers and sizes of R167, and is the whole payload. -/
theorem splitEntries_sound {fuel : Nat} {l : List Byte} {es : List (Nat × List Byte)}
    (h : splitEntries fuel l = some es) : (∀ e ∈ es, EntrySized e) ∧ l = entriesBytes es := by
  induction fuel generalizing l es with
  | zero =>
    cases l with
    | nil => cases h; exact ⟨by simp, rfl⟩
    | cons f rest => simp [splitEntries] at h
  | succ fuel ih =>
    cases l with
    | nil => cases h; exact ⟨by simp, rfl⟩
    | cons f rest =>
      rw [splitEntries, Option.ite_none_right_eq_some, Option.map_eq_some_iff] at h
      obtain ⟨hok, tail, htail, rfl⟩ := h
      obtain ⟨hsized, hrest⟩ := ih htail
      simp only [inRange, Bool.and_eq_true, decide_eq_true_eq] at hok
      obtain ⟨⟨hlow, hhigh⟩, hlen⟩ := hok
      refine ⟨?_, ?_⟩
      · rw [List.forall_mem_cons]
        exact ⟨⟨hlow, hhigh, List.length_take_of_le hlen⟩, hsized⟩
      · rw [entriesBytes_cons, ← hrest, List.take_append_drop, BitVec.ofNat_toNat, BitVec.setWidth_eq]

/-- The bytes of a list of entries split into that list. -/
theorem splitEntries_entriesBytes {es : List (Nat × List Byte)} (h : ∀ e ∈ es, EntrySized e) {fuel : Nat}
    (hfuel : es.length ≤ fuel) : splitEntries fuel (entriesBytes es) = some es := by
  induction es generalizing fuel with
  | nil => cases fuel <;> rfl
  | cons e es ih =>
    obtain ⟨fuel, rfl⟩ : ∃ n, fuel = n + 1 := Nat.exists_eq_add_one.2 (Nat.zero_lt_of_lt hfuel)
    rw [List.forall_mem_cons] at h
    obtain ⟨⟨hlow, hhigh, hlen⟩, hes⟩ := h
    have hnum : (BitVec.ofNat 8 e.1).toNat = e.1 := by
      rw [BitVec.toNat_ofNat]
      omega
    have hsize : settingSize e.1 = e.2.length := hlen.symm
    rw [entriesBytes_cons, splitEntries]
    simp only [hnum, hsize, inRange, hlow, hhigh, List.length_append, Nat.le_add_right, decide_true, Bool.and_self,
      if_true, List.drop_left, List.take_left, ih hes (Nat.le_of_succ_le_succ hfuel), Option.map_some]

/-- A payload is taken as a list of entries exactly where it is the bytes of a list that passes. -/
theorem settingsEntries_eq_some_iff (payload : List Byte) (es : List (Nat × List Byte)) :
    settingsEntries payload = some es ↔ EntriesPass es ∧ payload = entriesBytes es := by
  have checks (hs : ∀ e ∈ es, EntrySized e) :
      (!es.isEmpty && decide ((es.map Prod.fst).Nodup) && es.all entryOk) = true ↔ EntriesPass es := by
    simp only [EntriesPass, Bool.and_eq_true, Bool.not_eq_true', List.isEmpty_eq_false_iff, decide_eq_true_eq,
      List.all_eq_true, and_assoc]
    refine and_congr_right fun _ => and_congr_right fun _ => forall₂_congr fun e he => ?_
    rw [entryOk_iff (hs e he), and_iff_right (hs e he)]
  constructor
  · intro h
    unfold settingsEntries at h
    split at h
    · cases h
    · next l hsplit =>
      rw [Option.ite_none_right_eq_some] at h
      obtain ⟨hok, hl⟩ := h
      cases hl
      obtain ⟨hsized, hbytes⟩ := splitEntries_sound hsplit
      exact ⟨(checks hsized).1 hok, hbytes⟩
  · rintro ⟨hpass, rfl⟩
    simp only [settingsEntries, splitEntries_entriesBytes hpass.sized (length_le_length_entriesBytes es),
      (checks hpass.sized).2 hpass, if_true]

/-! ### The value that an entry applies (R167, R168) -/

theorem clampTo_eq {lo hi : Nat} (h : lo ≤ hi) (n : Nat) : clampTo lo hi n = max lo (min hi n) := by
  unfold clampTo
  split_ifs <;> omega

theorem settingRange_le (f : Nat) : (settingRange f).1 ≤ (settingRange f).2 ∧ (settingRange f).2 ≤ 65535 := by
  unfold settingRange
  split <;> decide

theorem entryValue_eq (e : Nat × List Byte) :
    entryValue e = max (settingRange e.1).1 (min (settingRange e.1).2 (wordAt e.2 0)) :=
  clampTo_eq (settingRange_le e.1).1 _

theorem entryValue_lt (e : Nat × List Byte) : entryValue e < 65536 := by
  obtain ⟨hlow, hhigh⟩ := settingRange_le e.1
  rw [entryValue_eq]
  omega

/-- A field that takes every number of two bytes takes the bytes as they are. -/
theorem be2_entryValue_of_full {e : Nat × List Byte} (h : settingRange e.1 = (0, 65535)) (h2 : e.2.length = 2) :
    be2 (entryValue e) = e.2 := by
  have := wordAt_lt e.2 0
  have hv : entryValue e = wordAt e.2 0 := by
    rw [entryValue_eq, h]
    omega
  rw [hv, be2_wordAt h2]

/-- A STAGGER slot number of R167, the nearer end for one above. -/
def clampStagger (b : Byte) : Byte := if 99 < b.toNat then 99#8 else b

/-- The bytes of a field after an entry has been applied to it. -/
def appliedBytes (e : Nat × List Byte) : List Byte :=
  if e.1 = 3 then e.2 else if e.1 = 4 then e.2.map clampStagger else be2 (entryValue e)

theorem clampStagger_eq (b : Byte) : BitVec.ofNat 8 (clampTo 0 99 b.toNat) = clampStagger b := by
  rw [clampTo, if_neg (Nat.not_lt_zero _), clampStagger]
  split
  · rfl
  · rw [BitVec.ofNat_toNat, BitVec.setWidth_eq]

theorem clampStagger_eq_self_iff (b : Byte) : clampStagger b = b ↔ b.toNat ≤ 99 := by
  unfold clampStagger
  split
  · next h => exact iff_of_false (fun hb => by rw [← hb] at h; exact absurd h (by decide)) (by omega)
  · next h => exact iff_of_true rfl (by omega)

theorem map_clampStagger_eq_self_iff (l : List Byte) : l.map clampStagger = l ↔ ∀ b ∈ l, b.toNat ≤ 99 := by
  have hmap : l.map clampStagger = l.map id ↔ ∀ b ∈ l, clampStagger b = id b := List.map_inj_left
  simpa only [List.map_id, id, clampStagger_eq_self_iff] using hmap

/-- The entries of a list by their numbers are the list. -/
theorem map_finRange_getD {α : Type} {n : Nat} {l : List α} (h : l.length = n) (d : α) :
    (List.finRange n).map (fun i => l.getD i.val d) = l := by
  subst h
  apply List.ext_getElem (by simp)
  intro i _ hi
  simp

theorem applyEntry_value_firingRank (c : Settings) {l : List Byte} (h : l.length = 12) :
    (applyEntry c (3, l)).value 3 = l := by
  refine Eq.trans ?_ (map_finRange_getD h 0#8)
  simp [applyEntry, Settings.value, byteAt]

theorem applyEntry_value_stagger (c : Settings) {l : List Byte} (h : l.length = 12) :
    (applyEntry c (4, l)).value 4 = l.map clampStagger := by
  refine Eq.trans ?_ (congrArg (List.map clampStagger) (map_finRange_getD h 0#8))
  simp [applyEntry, Settings.value, byteAt, Function.comp_def, clampStagger_eq]

theorem applyEntry_value_interlockPattern (c : Settings) {l : List Byte} (h : l.length = 2) :
    (applyEntry c (15, l)).value 15 = be2 (entryValue (15, l)) := by
  have hfull : be2 (entryValue (15, l)) = l := be2_entryValue_of_full rfl h
  refine Eq.trans ?_ ((be2_wordAt h).trans hfull.symm)
  simp only [applyEntry, Settings.value, BitVec.toNat_ofNat]
  rw [Nat.mod_eq_of_lt (wordAt_lt l 0)]

theorem applyEntry_value_endMarker (c : Settings) (l : List Byte) :
    (applyEntry c (18, l)).value 18 = be2 (entryValue (18, l)) := by
  have hbit : entryValue (18, l) ≤ 1 := by
    rw [entryValue_eq]
    simp only [settingRange]
    omega
  have hvalue : (if entryValue (18, l) == 1 then 1 else 0) = entryValue (18, l) := by
    interval_cases entryValue (18, l) <;> rfl
  exact congrArg be2 hvalue

/-- The field that an entry names holds the bytes it applies: by definition, but for the four fields that are not kept as
plain numbers. -/
theorem applyEntry_value_self (c : Settings) {e : Nat × List Byte} (h : EntrySized e) :
    (applyEntry c e).value e.1 = appliedBytes e := by
  obtain ⟨f, l⟩ := e
  obtain ⟨hlow, hhigh, hlen⟩ := h
  simp only at hlow hhigh hlen
  interval_cases f
  exacts [rfl, rfl, applyEntry_value_firingRank c hlen, applyEntry_value_stagger c hlen, rfl, rfl, rfl, rfl, rfl, rfl,
    rfl, rfl, rfl, rfl, applyEntry_value_interlockPattern c hlen, rfl, rfl, applyEntry_value_endMarker c l, rfl, rfl]

/-- No other field changes. -/
theorem applyEntry_value_ne (c : Settings) {e : Nat × List Byte} {f : Nat} (h : f ≠ e.1) :
    (applyEntry c e).value f = c.value f := by
  unfold applyEntry
  split
  case h_21 => rfl
  all_goals
    unfold Settings.value
    -- the field read is not the one written, or the hypotheses contradict
    split <;> first | rfl | omega

/-- A field that no entry of a list names keeps its value. -/
theorem foldl_applyEntry_value_of_not_mem {es : List (Nat × List Byte)} {f : Nat} (h : f ∉ es.map Prod.fst)
    (c : Settings) : (es.foldl applyEntry c).value f = c.value f := by
  induction es generalizing c with
  | nil => rfl
  | cons e es ih =>
    rw [List.map_cons, List.mem_cons, not_or] at h
    obtain ⟨hne, htail⟩ := h
    rw [List.foldl_cons, ih htail, applyEntry_value_ne c hne]

/-- A field that a list names once holds what its entry applies. -/
theorem foldl_applyEntry_value_of_mem {es : List (Nat × List Byte)} (hn : (es.map Prod.fst).Nodup)
    {e : Nat × List Byte} (he : e ∈ es) (hs : EntrySized e) (c : Settings) :
    (es.foldl applyEntry c).value e.1 = appliedBytes e := by
  induction es generalizing c with
  | nil => cases he
  | cons x es ih =>
    rw [List.map_cons, List.nodup_cons] at hn
    obtain ⟨hx, htail⟩ := hn
    rw [List.foldl_cons]
    rcases List.mem_cons.1 he with rfl | hmem
    · rw [foldl_applyEntry_value_of_not_mem hx, applyEntry_value_self c hs]
    · exact ih htail hmem _

/-- An applied entry is listed as CLAMPED exactly where it applies other bytes than it carries. -/
theorem entryClamped_iff {e : Nat × List Byte} (h : EntrySized e) : entryClamped e = true ↔ appliedBytes e ≠ e.2 := by
  unfold entryClamped appliedBytes
  by_cases h3 : e.1 = 3
  · simp [h3]
  · rw [if_neg h3, if_neg h3]
    by_cases h4 : e.1 = 4
    · rw [if_pos h4, if_pos h4, Ne, map_clampStagger_eq_self_iff]
      simp
    · have hword := be2_wordAt (h.length_two h3 h4)
      have hinj := be2_inj (entryValue_lt e) (wordAt_lt e.2 0)
      rw [hword] at hinj
      rw [if_neg h4, if_neg h4, Ne, hinj]
      simp

/-! ### The applied settings (R38, R168) -/

theorem State.ignores_iff (s : State) (e : Nat × List Byte) :
    s.ignores e = true ↔ (e.1 = 3 ∨ e.1 = 4 ∨ e.1 = 15) ∧ ∃ m, (s.row m).state ≠ .free := by
  have hlive : (!s.allFree) = true ↔ ∃ m, (s.row m).state ≠ .free := by
    rw [Bool.not_eq_true', ← Bool.not_eq_true, State.allFree_iff, not_forall]
  rw [State.ignores, Bool.and_eq_true, hlive]
  simp [isProtected, or_assoc]

/-- The settings record after the entries of a list that are not ignored. -/
def State.appliedSettings (s : State) (es : List (Nat × List Byte)) : Settings :=
  (es.filter fun e => !s.ignores e).foldl applyEntry s.settings

theorem State.appliedSettings_value_of_mem (s : State) {es : List (Nat × List Byte)} (h : EntriesPass es)
    {e : Nat × List Byte} (he : e ∈ es) :
    (s.appliedSettings es).value e.1 = if s.ignores e then s.settings.value e.1 else appliedBytes e := by
  obtain ⟨-, hn, hpass⟩ := h
  split
  · next hi =>
    refine foldl_applyEntry_value_of_not_mem (fun hmem => ?_) _
    obtain ⟨x, hx, hfst⟩ := List.mem_map.1 hmem
    obtain ⟨hxes, hxi⟩ := List.mem_filter.1 hx
    rw [List.inj_on_of_nodup_map hn hxes he hfst, hi] at hxi
    cases hxi
  · next hi =>
    refine foldl_applyEntry_value_of_mem (hn.sublist (List.filter_sublist.map _)) ?_ (hpass e he).1 _
    exact List.mem_filter.2 ⟨he, by simpa using hi⟩

theorem State.appliedSettings_value_of_not_mem (s : State) {es : List (Nat × List Byte)} {f : Nat}
    (h : f ∉ es.map Prod.fst) : (s.appliedSettings es).value f = s.settings.value f :=
  foldl_applyEntry_value_of_not_mem (fun hf => h ((List.filter_sublist.map _).subset hf)) _

theorem State.idleReached_iff (s : State) :
    s.idleReached = true ↔ s.settings.idleLimit ≠ 0 ∧
      ∃ start, s.regulator.idleTimer = some start ∧ s.settings.idleLimit ≤ elapsed s.clock start / 1000 := by
  unfold State.idleReached
  cases s.regulator.idleTimer <;> simp

/-- IDLE_LIMIT is not protected, so an entry of it is applied. -/
theorem State.anyIdleLimit_iff (s : State) (es : List (Nat × List Byte)) :
    ((es.filter fun e => !s.ignores e).any fun e => e.1 == 8) = true ↔ 8 ∈ es.map Prod.fst := by
  simp only [List.any_eq_true, List.mem_filter, List.mem_map, beq_iff_eq]
  refine exists_congr fun e => ⟨fun ⟨⟨he, _⟩, h8⟩ => ⟨he, h8⟩, fun ⟨he, h8⟩ => ⟨⟨he, ?_⟩, h8⟩⟩
  have : ¬s.ignores e = true := fun hi => by
    obtain ⟨hp, -⟩ := (s.ignores_iff e).1 hi
    omega
  simpa using this

/-- The state after the entries of a list, before the idle timer is looked at (R168). -/
abbrev State.withApplied (s : State) (es : List (Nat × List Byte)) : State := { s with settings := s.appliedSettings es }

/-- The written IDLE_LIMIT, if there is one, is reached already (R38). -/
abbrev State.IdleExpires (s : State) (es : List (Nat × List Byte)) : Prop :=
  8 ∈ es.map Prod.fst ∧ (s.appliedSettings es).idleLimit ≠ 0 ∧ ∃ start, s.regulator.idleTimer = some start ∧
    (s.appliedSettings es).idleLimit ≤ elapsed s.clock start / 1000

theorem State.writeSettings_eq (s : State) (es : List (Nat × List Byte)) :
    s.writeSettings es = if s.IdleExpires es then (s.withApplied es).idleExpire else s.withApplied es := by
  have hcond : ((es.filter fun e => !s.ignores e).any (fun e => e.1 == 8) && (s.withApplied es).idleReached) = true ↔
      s.IdleExpires es := by
    rw [Bool.and_eq_true, State.anyIdleLimit_iff, State.idleReached_iff]
  simp only [← hcond]
  rfl

theorem execIdleExpiry_of_running {s : State} {start : Clock} (h : s.regulator.idleTimer = some start) :
    exec .idleExpiry s = .next s.idleExpire := by
  change execIdleExpiry s = _
  rw [execIdleExpiry, h]
  rfl

/-! ### SETTINGS_WRITE (R168) -/

/-- The fields that the reply lists as IGNORED and as CLAMPED, each in the order of the entries (log 12). -/
def State.settingsReply (s : State) (es : List (Nat × List Byte)) : Reply where
  code := .done
  fields := listFields (es.filter s.ignores) (fun e => [.byte e.1]) ++
    listFields (es.filter fun e => !s.ignores e && entryClamped e) fun e => [.byte e.1]

theorem takeSettingsWrite_of_pass {es : List (Nat × List Byte)} (h : EntriesPass es) (s : State) :
    takeSettingsWrite (entriesBytes es) s = (s.writeSettings es, s.settingsReply es) := by
  rw [takeSettingsWrite, (settingsEntries_eq_some_iff _ es).2 ⟨h, rfl⟩]
  rfl

theorem takeSettingsWrite_of_no_entries {payload : List Byte} (h : ∀ es, EntriesPass es → payload ≠ entriesBytes es)
    (s : State) : takeSettingsWrite payload s = (s, .plain .malformed) := by
  cases hp : settingsEntries payload with
  | none => rw [takeSettingsWrite, hp]
  | some es =>
    obtain ⟨hpass, hbytes⟩ := (settingsEntries_eq_some_iff payload es).1 hp
    exact absurd hbytes (h es hpass)

/-- A list that passes is applied whole; where its IDLE_LIMIT is reached already, the idle timer expires in the same event. -/
theorem exec_settingsWrite_of_pass {es : List (Nat × List Byte)} (h : EntriesPass es) (s : State) :
    (¬s.IdleExpires es → exec (.settingsWrite (entriesBytes es)) s =
      .next ((s.withApplied es).withReply .records (s.settingsReply es))) ∧
    (s.IdleExpires es → exec .idleExpiry (s.withApplied es) = .next (s.withApplied es).idleExpire ∧
      exec (.settingsWrite (entriesBytes es)) s =
        .next ((s.withApplied es).idleExpire.withReply .records (s.settingsReply es))) := by
  rw [exec_settingsWrite, takeSettingsWrite_of_pass h, s.writeSettings_eq]
  refine ⟨fun hne => by rw [if_neg hne]; rfl, fun he => ⟨?_, by rw [if_pos he]; rfl⟩⟩
  obtain ⟨-, -, start, hstart, -⟩ := he
  exact execIdleExpiry_of_running hstart

/-! ### RUN_SET (R154) -/

@[simp] theorem RunMode.ofCode_code (m : RunMode) : RunMode.ofCode m.code = some m := by cases m <;> rfl

theorem RunMode.ofCode_eq_none {n : Nat} (h : 2 < n) : RunMode.ofCode n = none := by
  match n, h with
  | _ + 3, _ => rfl

theorem takeRunSet_eq (k : Fin 8) (mode : RunMode) (quantity : Nat) (s : State) :
    takeRunSet k.val mode.code quantity s =
      if mode = .counted ∧ quantity < (s.runs.get k).reserved then (s, .plain .belowReserved)
      else ({ s with runs := s.runs.set k ((s.runs.get k).setMode mode quantity) }, .plain .done) := by
  simp only [takeRunSet, index8_val, RunMode.ofCode_code]
  rfl

theorem takeRunSet_malformed {recipe mode : Nat} (h : 7 < recipe ∨ 2 < mode) (quantity : Nat) (s : State) :
    takeRunSet recipe mode quantity s = (s, .plain .malformed) := by
  rcases h with h | h
  · simp only [takeRunSet, index8_eq_none h]
  · simp only [takeRunSet, RunMode.ofCode_eq_none h]
    cases index8 recipe <;> rfl

theorem RunEntry.setMode_of_not_counted {mode : RunMode} (h : mode ≠ .counted) (e : RunEntry) (quantity : Nat) :
    e.setMode mode quantity = { e with mode := mode } := by
  cases mode with
  | counted => exact absurd rfl h
  | unset => rfl
  | continuous => rfl

/-! ### READBACK (R139) -/

theorem takeReadback_eq (item : Nat) (s : State) :
    takeReadback item s =
      if item ≤ 11 ∨ (16 ≤ item ∧ item ≤ 27) ∨ (32 ≤ item ∧ item ≤ 43) then
        if s.streamer.readback.length < 16 then
          ({ s with streamer := { s.streamer with readback := s.streamer.readback ++ [item] } }, .plain .done)
        else (s.setWarning, .plain .dropped)
      else (s, .plain .malformed) := by
  simp only [takeReadback, isItem_iff]
  rfl

end Sys2Proof.Machine
end

section
open Sys2Proof Sys2Proof.Machine

/-- Settles O59: the entries that a payload carries, what they apply, then the run table and the readback queue. -/
theorem settingsAndRunsAreSet : Obligations.SettingsAndRunsAreSet := by
  intro s answers passes bytes ignored nearest clamped
  have hpasses (es) : passes es ↔ EntriesPass es := by
    simp only [passes, EntriesPass, EntrySized, EntryContent, and_assoc]
  have hignored (e) : s.ignores e = true ↔ ignored e := s.ignores_iff e
  have hclamped {e} (h : EntrySized e) : clamped e = appliedBytes e := by
    obtain ⟨f, l⟩ := e
    obtain ⟨hlow, hhigh, hlen⟩ := h
    have hvalue := congrArg be2 (entryValue_eq (f, l))
    simp only at hlow hhigh hlen
    interval_cases f
    exacts [hvalue.symm, hvalue.symm, rfl, rfl, hvalue.symm, hvalue.symm, hvalue.symm, hvalue.symm, hvalue.symm,
      hvalue.symm, hvalue.symm, hvalue.symm, hvalue.symm, hvalue.symm, (be2_entryValue_of_full rfl hlen).symm,
      hvalue.symm, hvalue.symm, hvalue.symm, (be2_entryValue_of_full rfl hlen).symm,
      (be2_entryValue_of_full rfl hlen).symm]
  refine ⟨fun payload h => ?malformed, fun es h => ?applied, fun recipe mode quantity h => ?badRun,
    fun k mode quantity => ?run, fun p item => ?readback⟩
  case malformed =>
    exact respond_plain (takeSettingsWrite_of_no_entries (fun es hes => h es ((hpasses es).2 hes)) s)
  case applied =>
    have hpass := (hpasses es).1 h
    have hsized := hpass.sized
    refine ⟨s.appliedSettings es, fun e he => ?named, fun f hf => s.appliedSettings_value_of_not_mem hf, ?outcome⟩
    case named =>
      rw [s.appliedSettings_value_of_mem hpass he, hclamped (hsized e he)]
      simp only [hignored]
    case outcome =>
      intro u reply expires
      have hreply : some (PortId.records, s.settingsReply es) = reply := by
        have hlist : es.filter s.ignores = es.filter fun e => decide (ignored e) :=
          List.filter_congr fun e _ => by simp only [← hignored, Bool.decide_eq_true]
        have hcl : (es.filter fun e => !s.ignores e && entryClamped e) =
            es.filter fun e => decide (¬ignored e ∧ clamped e ≠ e.2) :=
          List.filter_congr fun e he => by
            rw [Bool.eq_iff_iff, decide_eq_true_iff, hclamped (hsized e he), ← entryClamped_iff (hsized e he), ← hignored]
            simp
        simp only [State.settingsReply, hlist, hcl, reply]
      rw [← hreply]
      obtain ⟨hplain, hexpires⟩ := exec_settingsWrite_of_pass hpass s
      exact ⟨hplain, fun he => ⟨_, hexpires he⟩⟩
  case badRun => exact respond_plain (takeRunSet_malformed h quantity s)
  case run =>
    intro e
    have take := takeRunSet_eq k mode quantity s
    refine ⟨fun hm hq => respond_plain (take.trans (if_pos ⟨hm, hq⟩)), fun hm hq => ?counted, fun hm => ?uncounted⟩
    case counted =>
      subst hm
      exact congrArg (respond .records) (take.trans (if_neg fun hlow => absurd hlow.2 (not_lt.2 hq)))
    case uncounted =>
      rw [if_neg fun hlow => hm hlow.1, RunEntry.setMode_of_not_counted hm] at take
      exact congrArg (respond .records) take
  case readback =>
    intro known
    have take := takeReadback_eq item s
    refine ⟨fun hu => respond_plain (take.trans (if_neg hu)), fun hk hroom => ?queued, fun hk hfull => ?dropped⟩
    case queued =>
      exact congrArg (respond p) (take.trans ((if_pos hk).trans (if_pos hroom)))
    case dropped =>
      exact congrArg (respond p) (take.trans ((if_pos hk).trans (if_neg (not_lt.2 hfull))))
end

section
/-! The rate factor (R71, R72): the interpolated term lies between 0 and the whole difference, then the factor below the
table, beyond it and in a band, the temperature being written as BASE + i × WIDTH + f. -/

namespace Sys2Proof.Machine

/-- The interpolated term: division toward zero is monotone, and `f` lies between none of `w` and the whole of it. -/
theorem tdiv_mul_between {f w : Int} (hf : 0 ≤ f) (hfw : f ≤ w) (hw : 0 < w) (d : Int) :
    min 0 d ≤ (d * f).tdiv w ∧ (d * f).tdiv w ≤ max 0 d := by
  have hwhole : (d * w).tdiv w = d := Int.mul_tdiv_cancel d hw.ne'
  have hnone : (0 : Int).tdiv w = 0 := Int.zero_tdiv w
  rcases le_total 0 d with hd | hd
  · have hlow := Int.tdiv_le_tdiv hw (mul_nonneg hd hf)
    have hhigh := Int.tdiv_le_tdiv hw (mul_le_mul_of_nonneg_left hfw hd)
    omega
  · have hlow := Int.tdiv_le_tdiv hw (mul_le_mul_of_nonpos_left hfw hd)
    have hhigh := Int.tdiv_le_tdiv hw (mul_nonpos_of_nonpos_of_nonneg hd hf)
    omega

theorem Recipe.rateAt_of_lt (r : Recipe) {i : Nat} (h : i < 16) : r.rateAt i = r.rate.get ⟨i, h⟩ := dif_pos h

/-- Steps 1 and 2 of R71. -/
theorem rateFactor_of_lt_base {r : Recipe} {theta : Int} (h : theta < r.base) : rateFactor r theta = 0 :=
  if_pos (Int.sub_neg_of_lt h)

/-- Steps 3 to 5 of R71: the offset in the table, as the band and the part of it. -/
theorem rateFactor_base_add {r : Recipe} {f : Nat} (hf : f < r.width) (i : Nat) :
    rateFactor r (r.base + i * r.width + f) =
      if 15 ≤ i then r.rateAt 15
      else ((r.rateAt i : Int) + (((r.rateAt (i + 1) : Int) - r.rateAt i) * f).tdiv r.width).toNat := by
  have hoffset : r.base + i * r.width + f - r.base = ((f + r.width * i : Nat) : Int) := by push_cast; ring
  obtain ⟨hband, hpart⟩ := (Nat.div_mod_unique (d := i) (Nat.zero_lt_of_lt hf)).2 ⟨rfl, hf⟩
  simp only [rateFactor, hoffset, Int.toNat_natCast, hband, hpart, if_neg (Int.natCast_nonneg _).not_gt]

/-- Step 4 of R71: the table's last entry holds from its end upward. -/
theorem rateFactor_of_end_le {r : Recipe} {theta : Int} (hw : 0 < r.width) (h : r.base + 15 * r.width ≤ theta) :
    rateFactor r theta = r.rate.get 15 := by
  obtain ⟨n, rfl⟩ := Int.le.dest h
  have hsplit : r.base + 15 * r.width + n = r.base + (15 + n / r.width : Nat) * r.width + (n % r.width : Nat) := by
    conv_lhs => rw [← Nat.div_add_mod n r.width]
    push_cast
    ring
  rw [hsplit, rateFactor_base_add (Nat.mod_lt n hw), if_pos (Nat.le_add_right 15 _)]
  exact r.rateAt_of_lt (by decide)

/-- Step 5 of R71: in a band the factor is the interpolated value, which is not cut off at 0. -/
theorem rateFactor_of_band {r : Recipe} {i f : Nat} (hi : i < 15) (hf : f < r.width) :
    (rateFactor r (r.base + i * r.width + f) : Int) =
      r.rateAt i + (((r.rateAt (i + 1) : Int) - r.rateAt i) * f).tdiv r.width := by
  obtain ⟨hlow, -⟩ := tdiv_mul_between (w := r.width) (Int.natCast_nonneg f) (by omega) (by omega)
    ((r.rateAt (i + 1) : Int) - r.rateAt i)
  rw [rateFactor_base_add hf, if_neg hi.not_ge, Int.toNat_of_nonneg (by omega)]

end Sys2Proof.Machine
end

section
open Sys2Proof Sys2Proof.Machine

/-- Settles O44: below the table, beyond it, and in a band, where the interpolated term decides. -/
theorem rateFactorLiesBetweenItsEntries : Obligations.RateFactorLiesBetweenItsEntries := by
  intro r theta hw
  refine ⟨rateFactor_of_lt_base, rateFactor_of_end_le hw, fun i hi hfrom hto => ?band⟩
  case band =>
    intro a b
    obtain ⟨f, rfl⟩ := Int.le.dest hfrom
    have hf : f < r.width := by
      rw [add_one_mul] at hto
      omega
    have hfactor : (rateFactor r (r.base + i * r.width + f) : Int) = a + (((b : Int) - a) * f).tdiv r.width := by
      rw [rateFactor_of_band hi hf, r.rateAt_of_lt (by omega), r.rateAt_of_lt (by omega)]
    have hpart : r.base + i * r.width + f - r.base - i * r.width = f := by ring
    obtain ⟨hlow, hhigh⟩ := tdiv_mul_between (w := r.width) (Int.natCast_nonneg f) (by omega) (by omega) ((b : Int) - a)
    rw [hpart]
    refine ⟨?_, ?_, hfactor⟩ <;> omega
end

section
/-! The weigh unit: TARE (R89), WEIGH (R91, R92), the end of a settle run (R88, R90, R93) and WEIGH_CANCEL (R94); then
admission (R81, R97 to R100). First what each operation does, then the statements. -/

namespace Sys2Proof.Machine

theorem exec_tare (s : State) : exec .tare s = respond .charge (takeTare s) := rfl

theorem exec_weigh (shot cavity : Nat) (s : State) :
    exec (.weigh shot cavity) s = respond .charge (takeWeigh shot cavity s) := rfl

theorem exec_weighCancel (s : State) : exec .weighCancel s = respond .charge (takeWeighCancel s) := rfl

theorem exec_settleRunTimeout (s : State) : exec .settleRunTimeout s = .next (s.endRun .unstable) := rfl

theorem exec_admitCharge (shot cavity : Nat) (s : State) :
    exec (.admitCharge shot cavity) s = respond .charge (takeAdmit shot cavity s) := rfl

theorem exec_admitOverride (shot cavity : Nat) (s : State) :
    exec (.admitOverride shot cavity) s = respond .charge (takeAdmitOverride shot cavity s) := rfl

/-! ### TARE and WEIGH (R89, R91, R92) -/

theorem takeTare_of_run {s : State} (h : s.weigh.run ≠ none) : takeTare s = (s, .plain .busy) := by
  obtain ⟨run, hrun⟩ := Option.ne_none_iff_exists'.1 h
  simp only [takeTare, hrun]

theorem takeTare_of_no_run {s : State} (h : s.weigh.run = none) :
    takeTare s = (s.setRun
      (SettleRun.start_ none s.settings.tareBand s.settings.tareCount s.settings.tareTimeout s.clock),
      .plain .started) := by
  simp only [takeTare, h]

/-- WEIGH of a cavity of a row that the shot names: R91's conditions in their order, then R92. -/
theorem takeWeigh_eq {s : State} {shot : Nat} {i k : Fin 8} (hn : s.Names shot i) (hk : (s.row i).recipe = some k)
    (j : Fin 8) :
    takeWeigh shot j.val s =
      if ((s.row i).state ≠ .open_ ∧ (s.row i).state ≠ .charged) ∨ (s.cavity i j).charge = .empty then
        (s, .plain .wrongState)
      else if (s.cavity i j).charge = .charged then (s, .plain .alreadyCharged)
      else if (s.cavity i j).attempts = (s.recipeAt k).maxAttempts then (s, .plain .attemptsExhausted)
      else if s.weigh.tare = none then (s, .plain .noTare)
      else if s.weigh.run ≠ none then (s, .plain .busy)
      else (s.startWeigh shot i j, .plain .started) := by
  simp only [takeWeigh, State.onCavity_of_names hn, State.rowRecipe_of_some hk, Option.isNone_iff_eq_none,
    Option.isSome_iff_ne_none, ite_or]

/-- An accepted WEIGH counts the attempt and starts a run with what the row's recipe gives the cavity (R87, R92). -/
theorem State.startWeigh_eq {s : State} {i k : Fin 8} (hk : (s.row i).recipe = some k) (shot : Nat) (j : Fin 8) :
    let c := s.cavity i j
    let r := s.recipeAt k
    s.startWeigh shot i j = { s with
      rows := s.rows.set i { s.row i with
        cavities := (s.row i).cavities.set j { c with attempts := c.attempts + 1 } }
      weigh := { s.weigh with
        run := some
          (SettleRun.start_
            (some
              { shot := shot, cavity := j, row := i, nominal := r.nominal.get j, tolLow := r.tolLow.get j,
                tolHigh := r.tolHigh.get j, attempt := c.attempts + 1, orphaned := false })
            r.settleBand r.settleCount r.settleTimeout s.clock) } } := by
  simp only [State.startWeigh, State.rowRecipe_of_some hk]
  rfl

/-! ### The end of a settle run (R88, R90, R93) -/

/-- The gross weight that an ended run leaves: the mean of a settled one, else none. -/
def RunEnd.gross : RunEnd → Option Nat
  | .settled v => some v
  | .overload | .unstable | .cancelled => none

/-- The outcome of a tare run that has ended (R90). -/
def RunEnd.tareOutcome (tareLimit : Nat) : RunEnd → TareOutcome
  | .settled v => if v ≤ tareLimit then .tared else .tareReject
  | .overload => .overload
  | .unstable => .unstable
  | .cancelled => .cancelled

/-- The class of a weigh run that has ended (R93). -/
def RunEnd.resultClass (emptyThreshold tare : Nat) (t : WeighTicket) : RunEnd → WeighClass
  | .settled v => weighClass emptyThreshold t (v - tare)
  | .overload => .overload
  | .unstable => .unstable
  | .cancelled => .cancelled

theorem WeighUnit.completeTare_eq (w : WeighUnit) (tareLimit : Nat) (e : RunEnd) :
    w.completeTare tareLimit e = { w with
      run := none
      tare := if e.tareOutcome tareLimit = .tared then e.gross else w.tare
      tareOutcome := some (e.tareOutcome tareLimit, e.gross) } := by
  cases e with
  | settled v => by_cases h : v ≤ tareLimit <;> simp [completeTare, RunEnd.tareOutcome, RunEnd.gross, h]
  | overload => rfl
  | unstable => rfl
  | cancelled => rfl

theorem weighResultOf_eq (run : SettleRun) (t : WeighTicket) (tare emptyThreshold : Nat) (now : Clock) (e : RunEnd) :
    weighResultOf run t tare emptyThreshold now e =
      { shot := t.shot, cavity := t.cavity, row := t.row, gross := e.gross, net := e.gross.map fun v => v - tare,
        cls := e.resultClass emptyThreshold tare t, attempt := t.attempt, samples := run.samples, time := now,
        admitted := false, orphaned := t.orphaned } := by
  cases e <;> rfl

/-- The class of a net weight, its bounds without a subtraction. -/
theorem weighClass_eq (emptyThreshold : Nat) (t : WeighTicket) (net : Nat) :
    weighClass emptyThreshold t net =
      if net < emptyThreshold then .emptyPan
      else if net + t.tolLow < t.nominal then .light
      else if t.nominal + t.tolHigh < net then .heavy
      else .accept := by
  have hlight : (net : Int) < t.nominal - t.tolLow ↔ net + t.tolLow < t.nominal := by omega
  simp only [weighClass, hlight]

/-- The class bounds of R93, each read off on its own: a net weight is never LIGHT and HEAVY at once. -/
theorem weighClass_bounds (emptyThreshold : Nat) (t : WeighTicket) (net : Nat) :
    (net < emptyThreshold → weighClass emptyThreshold t net = .emptyPan) ∧
    (emptyThreshold ≤ net →
      (net + t.tolLow < t.nominal → weighClass emptyThreshold t net = .light) ∧
      (t.nominal + t.tolHigh < net → weighClass emptyThreshold t net = .heavy) ∧
      (t.nominal ≤ net + t.tolLow → net ≤ t.nominal + t.tolHigh → weighClass emptyThreshold t net = .accept)) := by
  rw [weighClass_eq]
  refine ⟨fun h => if_pos h, fun h => ?_⟩
  rw [if_neg h.not_gt]
  refine ⟨fun hlight => if_pos hlight, fun hheavy => ?_, fun hlow hhigh => ?_⟩
  · rw [if_neg (by omega), if_pos hheavy]
  · rw [if_neg hlow.not_gt, if_neg hhigh.not_gt]

theorem takeWeighCancel_eq (s : State) :
    takeWeighCancel s =
      if s.weigh.run ≠ none then (s.endRun .cancelled, .plain .done) else (s, .plain .wrongState) := by
  simp only [takeWeighCancel, Option.isSome_iff_ne_none]

/-! ### The checks of an admission (R97) -/

/-- Without a weigh result an admission goes no further than its row. -/
theorem State.onAdmission_of_no_result {s : State} {shot : Nat} {i : Fin 8} (hn : s.Names shot i)
    (h : s.weigh.result = none) (j : Fin 8) (k : Fin 8 → Fin 8 → WeighResult → State × Reply) :
    s.onAdmission shot j.val k = (s, .plain .notAccepted) := by
  simp only [State.onAdmission, State.onCavity_of_names hn, h]

/-- An admission with a weigh result to look at: R97's conditions in their order. -/
theorem State.onAdmission_of_result {s : State} {shot : Nat} {i : Fin 8} {res : WeighResult} (hn : s.Names shot i)
    (h : s.weigh.result = some res) (j : Fin 8) (k : Fin 8 → Fin 8 → WeighResult → State × Reply) :
    s.onAdmission shot j.val k =
      if res.shot ≠ shot ∨ res.cavity ≠ j then (s, .plain .notAccepted)
      else if res.orphaned = true then (s, .plain .unknownShot)
      else if (s.row i).state ≠ .open_ ∨ (s.cavity i j).charge ≠ .awaitCharge then (s, .plain .wrongState)
      else if res.admitted = true then (s, .plain .notAccepted)
      else k i j res := by
  simp only [State.onAdmission, State.onCavity_of_names hn, h]

/-- ADMIT and ADMIT_OVERRIDE share their checks, so what the checks refuse both refuse. -/
theorem exec_admissions_of_refused {s : State} {shot cavity : Nat} {code : ResultCode}
    (h : ∀ k, s.onAdmission shot cavity k = (s, .plain code)) :
    exec (.admitCharge shot cavity) s = .next { s with reply := some (.charge, ⟨code, []⟩) } ∧
    exec (.admitOverride shot cavity) s = .next { s with reply := some (.charge, ⟨code, []⟩) } :=
  ⟨respond_plain (h _), respond_plain (h _)⟩

/-! ### An accepted admission (R81, R99, R100) -/

/-- TARGET_MIN is not negative, so neither is the clamped target (R81). -/
theorem targetFor_cast (r : Recipe) (j : Fin 8) (net : Nat) :
    (targetFor r j net : Int) = max (r.targetMin : Int) (min r.targetMax
      (r.cureTarget + (((net : Int) - r.nominal.get j) * r.cureAdjust).tdiv 1000)) :=
  Int.toNat_of_nonneg (le_max_of_le_left (Int.natCast_nonneg _))

theorem Cavity.takeCharge_charge (res : WeighResult) (now : Clock) (target : Nat) (override : Bool) (c : Cavity) :
    (c.takeCharge res now target override).charge = .charged := by
  cases override <;> simp [Cavity.takeCharge]

/-- R100 on a row that is OPEN. -/
theorem Row.tryCharged_of_open {r : Row} (h : r.state = .open_) :
    r.tryCharged = { r with
      state := if ∀ m, (r.cavities.get m).charge ≠ .awaitCharge then .charged else .open_ } := by
  have hany : (!r.cavities.any fun c => c.charge == .awaitCharge) = true ↔
      ∀ m, (r.cavities.get m).charge ≠ .awaitCharge := by
    simp [Vec.any_eq_false_iff]
  simp only [Row.tryCharged, h, hany, true_and]
  split
  · rfl
  · rw [← h]

/-- A charge leaves only the other cavities to await theirs (R100). -/
theorem Row.none_awaits_modifyCavity_iff {r : Row} {j : Fin 8} {f : Cavity → Cavity}
    (h : (f (r.cavities.get j)).charge = .charged) :
    (∀ m, ((r.modifyCavity j f).cavities.get m).charge ≠ .awaitCharge) ↔
      ∀ m, m ≠ j → (r.cavities.get m).charge ≠ .awaitCharge := by
  refine forall_congr' fun m => ?_
  rw [Row.modifyCavity, Vec.get_modify]
  by_cases hm : j = m
  · subst hm
    simp [h]
  · simp [hm, Ne.symm hm]

theorem State.admitTo_eq {s : State} {i k : Fin 8} {res : WeighResult} {net : Nat} (hk : (s.row i).recipe = some k)
    (hopen : (s.row i).state = .open_) (hnet : res.net = some net) (j : Fin 8) (override : Bool) :
    let target := targetFor (s.recipeAt k) j net
    s.admitTo i j res override =
      ({ s with
        rows := s.rows.set i { s.row i with
          state := if ∀ m, m ≠ j → (s.cavity i m).charge ≠ .awaitCharge then .charged else .open_
          cavities := (s.row i).cavities.set j ((s.cavity i j).takeCharge res s.clock target override) }
        weigh := { s.weigh with result := some { res with admitted := true } } },
        ⟨.done, [.word target]⟩) := by
  intro target
  have hrow : ((s.row i).modifyCavity j (Cavity.takeCharge res s.clock target override)).tryCharged = _ :=
    Row.tryCharged_of_open hopen
  simp only [Row.none_awaits_modifyCavity_iff (Cavity.takeCharge_charge _ _ _ _ _)] at hrow
  simp only [State.admitTo, State.rowRecipe_of_some hk, hnet, Option.getD_some]
  rw [hrow]
  rfl

end Sys2Proof.Machine
end

section
open Sys2Proof Sys2Proof.Machine

/-- Settles O46: TARE with and without a run; then each check of R91, with those before it passed. -/
theorem tareAndWeighStartTheRun : Obligations.TareAndWeighStartTheRun := by
  intro s
  refine ⟨fun hrun => respond_plain (takeTare_of_run hrun), fun hrun => ?tare, fun shot i j k hn hk => ?weigh⟩
  case tare =>
    rw [exec_tare, takeTare_of_no_run hrun]
    rfl
  case weigh =>
    intro answers c r
    have weigh := takeWeigh_eq hn hk j
    have reply : ∀ code, takeWeigh shot j.val s = (s, .plain code) → answers code := fun _ h => respond_plain h
    simp only [weigh] at reply
    refine ⟨fun h => reply _ (if_pos h), fun hstate => ?mayWeigh⟩
    have passed (hne : (s.cavity i j).charge ≠ .empty) :
        ¬(((s.row i).state ≠ .open_ ∧ (s.row i).state ≠ .charged) ∨ (s.cavity i j).charge = .empty) := by tauto
    refine ⟨fun (hc : (s.cavity i j).charge = .charged) => reply _ ?charged,
      fun (hc : (s.cavity i j).charge = .awaitCharge) => ?awaiting⟩
    case charged => rw [if_neg (passed (by simp [hc])), if_pos hc]
    case awaiting =>
      have hnotCharged : (s.cavity i j).charge ≠ .charged := by simp [hc]
      simp only [if_neg (passed (by simp [hc])), if_neg hnotCharged] at reply weigh
      refine ⟨fun h => reply _ (if_pos h),
        fun (hattempts : (s.cavity i j).attempts ≠ (s.recipeAt k).maxAttempts) => ?_⟩
      simp only [if_neg hattempts] at reply weigh
      refine ⟨fun h => reply _ (if_pos h), fun htare => ?_⟩
      simp only [if_neg htare] at reply weigh
      refine ⟨fun h => reply _ (if_pos h), fun hrun => ?accepted⟩
      rw [if_neg (not_not_intro hrun), State.startWeigh_eq hk] at weigh
      rw [exec_weigh, weigh]
      rfl

/-- Settles O49: the record of the ended run by its kind, then the two events that end a run without a sample. -/
theorem theRunEndLeavesItsResult : Obligations.TheRunEndLeavesItsResult := by
  refine ⟨fun s run e hrun => ⟨fun ht => ?tareRun, fun t tare ht htare => ?weighRun⟩, fun s => ?events⟩
  case tareRun =>
    refine ⟨e.tareOutcome s.settings.tareLimit, ?outcome, ?record⟩
    case outcome =>
      cases e with
      | settled v => exact ⟨fun h => if_pos h, fun h => if_neg h.not_ge⟩
      | overload | unstable | cancelled => rfl
    case record =>
      rw [State.endRun_tare hrun ht, WeighUnit.completeTare_eq]
      cases e <;> rfl
  case weighRun =>
    refine ⟨e.resultClass s.settings.emptyThreshold tare t, ?cls, ?record⟩
    case cls =>
      cases e with
      | settled v => exact weighClass_bounds _ t _
      | overload | unstable | cancelled => rfl
    case record =>
      rw [State.endRun_weigh hrun ht, weighResultOf_eq, htare]
      cases e <;> rfl
  case events =>
    have taken := takeWeighCancel_eq s
    refine ⟨exec_settleRunTimeout s, fun hrun => ?cancel, fun hrun => ?idle⟩
    case cancel =>
      rw [exec_weighCancel, taken, if_pos hrun]
      rfl
    case idle => exact respond_plain (taken.trans (if_neg (not_not_intro hrun)))

/-- Settles O50: what R97 refuses both requests refuse, each check with those before it passed; the class then decides
(R98). -/
theorem admissionChargesTheCavity : Obligations.AdmissionChargesTheCavity := by
  refine ⟨fun s shot i j hn hres => exec_admissions_of_refused (State.onAdmission_of_no_result hn hres j),
    fun s shot i j k res hn hk hres => ?result⟩
  intro answers both r
  have checks := State.onAdmission_of_result hn hres j
  have refused : ∀ code, (∀ f, s.onAdmission shot j.val f = (s, .plain code)) → both code :=
    fun _ h => exec_admissions_of_refused h
  simp only [checks] at refused
  refine ⟨fun h => refused _ fun _ => if_pos h, fun hshot hcavity => ?_⟩
  have hnamed : ¬(res.shot ≠ shot ∨ res.cavity ≠ j) := by tauto
  simp only [if_neg hnamed] at refused checks
  refine ⟨fun h => refused _ fun _ => if_pos h, fun horphaned => ?_⟩
  simp only [horphaned, Bool.false_eq_true, if_false] at refused checks
  refine ⟨fun h => refused _ fun _ => if_pos h, fun hopen hawaits => ?_⟩
  have hstate : ¬((s.row i).state ≠ .open_ ∨ (s.cavity i j).charge ≠ .awaitCharge) := by tauto
  simp only [if_neg hstate] at refused checks
  refine ⟨fun h => refused _ fun _ => if_pos h, fun hadmitted => ?passed⟩
  simp only [hadmitted, Bool.false_eq_true, if_false] at checks
  have hadmit : takeAdmit shot j.val s = _ := checks _
  have hoverride : takeAdmitOverride shot j.val s = _ := checks _
  rw [State.rowRecipe_of_some hk] at hoverride
  intro accepted
  have charges {override c t} (hexec : exec c s = respond .charge t) (ht : t = s.admitTo i j res override) :
      accepted override c := by
    intro net hnet
    refine ⟨_, targetFor r j net, targetFor_cast r j net, hexec, ?_⟩
    rw [ht, State.admitTo_eq hk hopen hnet]
    simp only [Cavity.takeCharge, hnet]
    rfl
  refine ⟨fun hcls => ?accept, fun hcls => ?lightOrHeavy, fun haccept hlight hheavy => ?other⟩
  case accept =>
    rw [if_pos hcls] at hadmit hoverride
    exact ⟨charges (exec_admitCharge _ _ s) hadmit, charges (exec_admitOverride _ _ s) hoverride⟩
  case lightOrHeavy =>
    have haccept : res.cls ≠ .accept := by rcases hcls with h | h <;> simp [h]
    rw [if_neg haccept] at hadmit hoverride
    rw [if_pos hcls] at hoverride
    exact ⟨respond_plain hadmit,
      fun hallow => charges (exec_admitOverride _ _ s) (hoverride.trans (if_pos hallow)),
      fun hforbid => respond_plain (hoverride.trans (if_neg hforbid))⟩
  case other =>
    rw [if_neg haccept] at hadmit hoverride
    rw [if_neg (not_or.2 ⟨hlight, hheavy⟩)] at hoverride
    exact ⟨respond_plain hadmit, respond_plain hoverride⟩
end

section
/-! The extraction controller: the reports EXTRACT_DONE (R109 to R111) and CLEAR (R112). First what each does,
then the statement. -/

namespace Sys2Proof.Machine

theorem exec_extractDone (shot cavity outcome : Nat) (s : State) :
    exec (.extractDone shot cavity outcome) s = respond .extract (takeExtractDone shot cavity outcome s) := rfl

theorem exec_clear (shot cavity : Nat) (s : State) :
    exec (.clear shot cavity) s = respond .extract (takeClear shot cavity s) := rfl

/-! ### Changes of one cavity slot -/

theorem Row.modifyCavity_modifyCavity (r : Row) (j : Fin 8) (f g : Cavity → Cavity) :
    (r.modifyCavity j f).modifyCavity j g = r.modifyCavity j fun c => g (f c) := by
  simp only [Row.modifyCavity, Vec.modify, Vec.get_set_self, Vec.set_set_self]

/-- Two changes of one cavity slot are one change. -/
theorem State.modifyCavity_modifyCavity (s : State) (i j : Fin 8) (f g : Cavity → Cavity) :
    (s.modifyCavity i j f).modifyCavity i j g = s.modifyCavity i j fun c => g (f c) := by
  rw [State.modifyCavity, State.row_modifyCavity_self, Row.modifyCavity_modifyCavity]
  simp only [State.modifyCavity, State.setRow, Vec.set_set_self]

/-! ### The freeing condition where it is evaluated (R22) -/

theorem State.tryFree_eq (s : State) (i : Fin 8) :
    s.tryFree i =
      if (s.row i).state = .opened ∧ ∀ m, ¬(s.cavity i m).InTool ∧
        ((s.cavity i m).record = .recorded ∨ (s.cavity i m).record = .notDue ∧ (s.cavity i m).charge ≠ .charged)
      then s.freeRow i else s := by
  simp only [State.tryFree, Row.freeable_iff]
  rfl

/-! ### EXTRACT_DONE (R109 to R111) -/

theorem reportedOutcome_eq_some {outcome : ToolOutcome} {code : Nat}
    (h : (outcome = .removed ∧ code = 1) ∨ (outcome = .stuck ∧ code = 2)) : reportedOutcome code = some outcome := by
  rcases h with ⟨rfl, rfl⟩ | ⟨rfl, rfl⟩ <;> rfl

theorem ToolOutcome.status_of_reported {outcome : ToolOutcome} (h : outcome = .removed ∨ outcome = .stuck) :
    outcome.status = if outcome = .removed then .removed else .stuck := by
  rcases h with rfl | rfl <;> rfl

/-- A report that names a row in OPENED is answered from the cavity's tool status. -/
theorem takeExtractDone_of_opened {s : State} {shot code : Nat} {i : Fin 8} {outcome : ToolOutcome}
    (hn : s.Names shot i) (ho : (s.row i).state = .opened) (hcode : reportedOutcome code = some outcome) (j : Fin 8) :
    takeExtractDone shot j.val code s = s.reportOn i j outcome := by
  have hshot : shotOk shot = true := (shotOk_iff shot).2 hn.1
  simp only [takeExtractDone, hshot, index8_val, hcode, State.findShot_of_names hn, ho, ne_eq, not_true_eq_false,
    if_false]

theorem State.reportOn_of_held {s : State} {i j : Fin 8}
    (h : (s.cavity i j).tool = .inTool ∨ (s.cavity i j).tool = .granted) (outcome : ToolOutcome) :
    s.reportOn i j outcome = (s.extract i j outcome, .plain .done) := by
  rcases h with h | h <;> simp only [State.reportOn, h]

theorem State.reportOn_of_abandoned {s : State} {i j : Fin 8} (h : (s.cavity i j).tool = .abandoned)
    (outcome : ToolOutcome) :
    s.reportOn i j outcome = (if outcome = .removed then s.clearCavity i j else s, .plain .late) := by
  simp only [State.reportOn, h]

theorem State.reportOn_of_settled {s : State} {i j : Fin 8}
    (h : (s.cavity i j).tool = .notInTool ∨ (s.cavity i j).tool = .removed ∨ (s.cavity i j).tool = .stuck ∨
      (s.cavity i j).tool = .cleared) (outcome : ToolOutcome) :
    s.reportOn i j outcome = (s, .plain .wrongState) := by
  rcases h with h | h | h | h <;> simp only [State.reportOn, h]

/-- A report on a cavity that holds no grant gives the note NO_GRANT with the outcome's tool status (R110). -/
theorem State.endGrant_of_inTool {s : State} {i j : Fin 8} {closedAt : Clock} (h : (s.cavity i j).tool = .inTool)
    (hclosed : (s.row i).timeClosed = some closedAt) (status : ToolStatus) :
    (s.endGrant i j).modifyCavity i j (fun c => { c with tool := status }) =
      s.modifyCavity i j fun c =>
        { c.giveNote .noGrant (min (elapsed s.clock closedAt / 1000) 65535) with tool := status } := by
  rw [State.endGrant, if_pos h, State.modifyCavity_modifyCavity, noteOffset_of_closed hclosed]

/-- A report on a GRANTED cavity ends the grant (R110). -/
theorem State.endGrant_of_granted {s : State} {i j : Fin 8} (h : (s.cavity i j).tool = .granted) :
    s.endGrant i j = { s with extraction := { s.extraction with grant := none } } :=
  if_neg (by simp [h])

/-! ### CLEAR (R112) -/

theorem takeClear_eq {s : State} {shot : Nat} {i : Fin 8} (hn : s.Names shot i) (j : Fin 8) :
    takeClear shot j.val s =
      if (s.cavity i j).tool = .stuck ∨ (s.cavity i j).tool = .abandoned then (s.clearCavity i j, .plain .done)
      else (s, .plain .wrongState) :=
  State.onCavity_of_names hn j _

/-- Before its row is in OPENED a cavity is neither STUCK nor ABANDONED. -/
theorem State.CavityLaw.tool_of_not_opened {s : State} (law : s.CavityLaw) {i : Fin 8}
    (hlive : (s.row i).state ≠ .free) (h : (s.row i).state ≠ .opened) (j : Fin 8) :
    (s.cavity i j).tool = .notInTool ∨ (s.cavity i j).tool = .inTool := by
  have beforeClose (hs : (s.row i).state = .open_ ∨ (s.row i).state = .charged) :
      (s.cavity i j).tool = .notInTool := by
    obtain ⟨-, -, -, htool, -⟩ := law.unmoulded i hs j
    exact htool
  have inPress (hp : (s.row i).Pressed) : (s.cavity i j).tool = .notInTool ∨ (s.cavity i j).tool = .inTool := by
    rcases law.pressed i hp j with ⟨-, -, -, htool, -⟩ | ⟨-, -, -, htool, -⟩
    · exact .inl htool
    · exact .inr htool
  cases hs : (s.row i).state with
  | free => exact absurd hs hlive
  | open_ => exact .inl (beforeClose (.inl hs))
  | charged => exact .inl (beforeClose (.inr hs))
  | curing => exact inPress (.inl hs)
  | releasable => exact inPress (.inr hs)
  | opened => exact absurd hs h

end Sys2Proof.Machine
end

section
open Sys2Proof Sys2Proof.Machine

/-- Settles O54: the two answers of CLEAR, then the reports by the cavity's tool status. -/
theorem toolReportsSettleTheCavity : Obligations.ToolReportsSettleTheCavity := by
  refine ⟨fun s shot i j hn htool => ?clearRefused,
    fun s shot i j outcome code closedAt hn ho hclosed hoc => ?opened⟩
  case clearRefused =>
    refine respond_plain ((takeClear_eq hn j).trans (if_neg ?_))
    rcases htool with ⟨hstuck, habandoned⟩ | ⟨law, hstate⟩
    · exact not_or.2 ⟨hstuck, habandoned⟩
    · obtain ⟨-, hlive, -⟩ := hn
      rcases law.tool_of_not_opened hlive hstate j with h | h <;> simp [h]
  case opened =>
    intro c status withCavity lowered finished removeIf report
    have hstatus : outcome.status = status := ToolOutcome.status_of_reported (hoc.imp And.left And.left)
    have hlowered (u : State) : u.lowerUncleared = lowered u := u.lowerUncleared_eq
    have hfinished (u : State) (code : ResultCode) :
        respond .extract (u.tryFree i, .plain code) = .next (finished u code) := by
      rw [State.tryFree_eq]
      rfl
    have hcleared (code : ResultCode) : respond .extract (s.clearCavity i j, .plain code) =
        .next (finished (lowered (withCavity { c with tool := .cleared })) code) := by
      rw [State.clearCavity, hfinished, hlowered]
      rfl
    have hreport : exec report s = respond .extract (s.reportOn i j outcome) := by
      rw [← takeExtractDone_of_opened hn ho (reportedOutcome_eq_some hoc), ← exec_extractDone]
    have hextract (hheld : c.tool = .inTool ∨ c.tool = .granted) : exec report s = .next (finished (removeIf
        (((s.endGrant i j).modifyCavity i j fun x => { x with tool := status }).recordDue i j outcome)) .done) := by
      rw [hreport, State.reportOn_of_held hheld, State.extract, hfinished, hlowered, hstatus]
    refine ⟨fun htool => ?inTool, fun htool => ?granted, fun htool => ?abandoned, fun htool => ?settled,
      fun htool => ?clear⟩
    case inTool =>
      rw [hextract (.inl htool), State.endGrant_of_inTool htool hclosed]
      rfl
    case granted =>
      rw [hextract (.inr htool), State.endGrant_of_granted htool]
      rfl
    case abandoned =>
      rw [hreport, State.reportOn_of_abandoned htool]
      split
      · exact hcleared .late
      · rfl
    case settled =>
      rw [hreport]
      exact respond_plain (State.reportOn_of_settled htool outcome)
    case clear => rw [exec_clear, takeClear_eq hn, if_pos htool, hcleared]
end

section
/-! The expiry of the demould window (R7, R113): a due record as a whole, the abandoning of one cavity, and the abandoning of
the cavities of a row one after the other; then the statement. -/

namespace Sys2Proof.Machine

/-! ### A due record as a whole (R121 to R126) -/

/-- A cavity slot whose frozen record has been placed: RECORDED where the ring had room, else QUEUED with the record. -/
def Cavity.placed (c : Cavity) (r : PartRecord) (room : Prop) [Decidable room] : Cavity :=
  { c with
    verdict := some r.verdict
    record := if room then .recorded else .queued
    frozen := if room then c.frozen else some r }

/-- A frozen record is placed in the ring, with RING_HIGH at 48, or in the record queue. -/
theorem State.placeRecord_eq (s : State) (i j : Fin 8) (r : PartRecord) :
    let room := s.ring.length < 64
    s.placeRecord i j r = {
      s.modifyCavity i j fun c =>
        { c with record := if room then .recorded else .queued, frozen := if room then c.frozen else some r } with
      ring := if room then s.ring ++ [r] else s.ring
      recordQueue := if room then s.recordQueue else s.recordQueue ++ [(i, j)]
      ports := { s.ports with
        records := if s.ring.length = 47 then s.ports.records.raise .ringHigh else s.ports.records } } := by
  intro room
  by_cases h : room
  · simp only [State.placeRecord_room r h, State.enterRing_eq, if_pos h]
    rfl
  · have hfull : 64 ≤ s.ring.length := Nat.not_lt.1 h
    simp only [State.placeRecord_full r hfull, if_neg h, if_neg (show ¬s.ring.length = 47 by omega)]
    rfl

/-- The run accounting and a change of a cavity slot do not touch each other. -/
theorem State.accountRun_modifyCavity (s : State) (i j : Fin 8) (f : Cavity → Cavity) (recipe : Option (Fin 8))
    (v : Verdict) :
    (s.modifyCavity i j f).accountRun recipe v = (s.accountRun recipe v).modifyCavity i j f := by
  cases recipe with
  | none => rfl
  | some k =>
    rw [State.accountRun_some, State.accountRun_some]
    rfl

/-- What a due record of a row that names slot `k` writes. -/
theorem State.recordDue_eq {s : State} {i k : Fin 8} (hk : (s.row i).recipe = some k) (j : Fin 8)
    (outcome : ToolOutcome) :
    let r := s.freeze i j outcome
    let room := s.ring.length < 64
    let told := fun (q : Port) => if (s.runs.get k).completes r.verdict then q.raise .runComplete else q
    s.recordDue i j outcome = { s.modifyCavity i j fun c => c.placed r room with
      runs := s.runs.set k ((s.runs.get k).account r.verdict)
      ring := if room then s.ring ++ [r] else s.ring
      recordQueue := if room then s.recordQueue else s.recordQueue ++ [(i, j)]
      ports := { s.ports with
        press := told s.ports.press
        charge := told s.ports.charge
        records := if s.ring.length = 47 then (told s.ports.records).raise .ringHigh else told s.ports.records } } := by
  intro r room told
  rw [State.recordDue, hk, State.accountRun_modifyCavity, State.placeRecord_eq, State.modifyCavity_modifyCavity,
    State.accountRun_some]
  by_cases h : (s.runs.get k).completes (s.freeze i j outcome).verdict = true
  · simp only [told, r, if_pos h]
    rfl
  · simp only [told, r, if_neg h]
    rfl

/-! ### An abandoned cavity (R113, R123) -/

/-- A frozen record does not read the row timer, the tool status or another cavity (R122). -/
theorem State.freeze_congr {s t : State} {i j : Fin 8}
    (hrow : t.row i = { s.row i with rowTimer := (t.row i).rowTimer, cavities := (t.row i).cavities })
    (hcavity : t.cavity i j = { s.cavity i j with tool := (t.cavity i j).tool })
    (hstore : t.store = s.store) (hclock : t.clock = s.clock) (outcome : ToolOutcome) :
    t.freeze i j outcome = s.freeze i j outcome := by
  unfold State.freeze State.rowRecipe State.recipeAt
  rw [hrow, hcavity, hstore, hclock]
  rfl

theorem State.freeze_modifyCavity_tool (s : State) (i j : Fin 8) (tool : ToolStatus) (outcome : ToolOutcome) :
    (s.modifyCavity i j fun c => { c with tool := tool }).freeze i j outcome = s.freeze i j outcome := by
  apply State.freeze_congr
  case hrow =>
    rw [State.row_modifyCavity_self]
    rfl
  case hcavity => rw [State.cavity_modifyCavity_self]
  all_goals rfl

theorem State.freeze_abandoned_verdict (s : State) (i j : Fin 8) :
    (s.freeze i j .abandoned).verdict = if (s.cavity i j).cure = .forced then .forced else .abandoned := by
  simp [State.freeze, verdictOf]

/-- An abandoned part is never GOOD, so it leaves the run's remaining quantity as it is (R124, R125). -/
theorem State.abandoned_not_good (s : State) (i j : Fin 8) : (s.freeze i j .abandoned).verdict ≠ .good := by
  rw [State.freeze_abandoned_verdict]
  split <;> decide

theorem RunEntry.account_of_not_good (e : RunEntry) {v : Verdict} (h : v ≠ .good) :
    e.account v = { e with reserved := e.reserved - 1 } := by simp [RunEntry.account, h]

theorem RunEntry.completes_of_not_good (e : RunEntry) {v : Verdict} (h : v ≠ .good) : e.completes v = false := by
  simp [RunEntry.completes, h]

/-- What abandoning a cavity of a row that names slot `k` writes. -/
theorem State.abandon_eq {s : State} {i k : Fin 8} (hk : (s.row i).recipe = some k) (j : Fin 8) :
    let r := s.freeze i j .abandoned
    let room := s.ring.length < 64
    s.abandon i j = { s.modifyCavity i j fun c => { c with tool := .abandoned }.placed r room with
      runs := s.runs.set k { s.runs.get k with reserved := (s.runs.get k).reserved - 1 }
      ring := if room then s.ring ++ [r] else s.ring
      recordQueue := if room then s.recordQueue else s.recordQueue ++ [(i, j)]
      ports := { s.ports with
        records := if s.ring.length = 47 then s.ports.records.raise .ringHigh else s.ports.records } } := by
  intro r room
  have hfreeze : _ = r := s.freeze_modifyCavity_tool i j .abandoned .abandoned
  have hgood : r.verdict ≠ .good := s.abandoned_not_good i j
  have hrecipe : ((s.modifyCavity i j fun c => { c with tool := .abandoned }).row i).recipe = some k := by
    rw [State.row_modifyCavity_self, Row.modifyCavity_recipe, hk]
  rw [State.abandon, State.recordDue_eq hrecipe, hfreeze, State.modifyCavity_modifyCavity]
  simp only [RunEntry.account_of_not_good _ hgood, RunEntry.completes_of_not_good _ hgood, Bool.false_eq_true, if_false]
  rfl

/-! ### A list with one more entry, cut at a length -/

theorem take_concat {α : Type} (l : List α) (a : α) (n : Nat) :
    (l ++ [a]).take n = if l.length < n then l.take n ++ [a] else l.take n := by
  split
  · next h => rw [List.take_append, List.take_of_length_le (l := [a]) (Nat.sub_pos_of_lt h)]
  · next h => exact List.take_append_of_le_length (Nat.not_lt.1 h)

theorem drop_concat {α : Type} (l : List α) (a : α) (n : Nat) :
    (l ++ [a]).drop n = if l.length < n then l.drop n else l.drop n ++ [a] := by
  split
  · next h =>
    have hone : [a].drop (n - l.length) = [] := List.drop_of_length_le (Nat.sub_pos_of_lt h)
    rw [List.drop_append, hone, List.append_nil]
  · next h => exact List.drop_append_of_le_length (Nat.not_lt.1 h)

/-! ### The cavities of a row abandoned in turn (R113) -/

/-- Cavity `m` of row `i` after the row timer has expired and the cavities `js` have been abandoned in that order: those
that found a free ring slot are RECORDED, the later ones QUEUED. -/
def State.cavityAfterExpiry (s : State) (i : Fin 8) (js : List (Fin 8)) (m : Fin 8) : Cavity :=
  if m ∈ js then
    { s.cavity i m with tool := .abandoned }.placed (s.freeze i m .abandoned) (m ∈ js.take (64 - s.ring.length))
  else s.cavity i m

/-- The state after the row timer of row `i`, which names slot `k`, has expired and the cavities `js` have been abandoned in
that order, before DEMOULD_EXPIRED. -/
def State.afterExpiry (s : State) (i k : Fin 8) (js : List (Fin 8)) : State :=
  let room := 64 - s.ring.length
  let ring := s.ring ++ (js.take room).map fun j => s.freeze i j .abandoned
  { s with
    rows := s.rows.set i { s.row i with rowTimer := none, cavities := .ofFn (s.cavityAfterExpiry i js) }
    runs := s.runs.set k { s.runs.get k with reserved := (s.runs.get k).reserved - js.length }
    ring := ring
    recordQueue := s.recordQueue ++ (js.drop room).map fun j => (i, j)
    ports := { s.ports with
      records :=
        if s.ring.length < 48 ∧ 48 ≤ ring.length then s.ports.records.raise .ringHigh else s.ports.records } }

@[simp] theorem State.afterExpiry_row (s : State) (i k : Fin 8) (js : List (Fin 8)) :
    (s.afterExpiry i k js).row i =
      { s.row i with rowTimer := none, cavities := .ofFn (s.cavityAfterExpiry i js) } := Vec.get_set_self _ _ _

@[simp] theorem State.afterExpiry_cavity (s : State) (i k : Fin 8) (js : List (Fin 8)) (m : Fin 8) :
    (s.afterExpiry i k js).cavity i m = s.cavityAfterExpiry i js m := by
  rw [State.cavity, State.afterExpiry_row, Vec.get_ofFn]

theorem State.afterExpiry_ring (s : State) (i k : Fin 8) (js : List (Fin 8)) :
    (s.afterExpiry i k js).ring =
      s.ring ++ (js.take (64 - s.ring.length)).map fun j => s.freeze i j .abandoned := rfl

theorem State.afterExpiry_records (s : State) (i k : Fin 8) (js : List (Fin 8)) :
    (s.afterExpiry i k js).ports.records =
      if s.ring.length < 48 ∧ 48 ≤ (s.afterExpiry i k js).ring.length then s.ports.records.raise .ringHigh
      else s.ports.records := rfl

theorem State.cavityAfterExpiry_of_not_mem (s : State) (i : Fin 8) {js : List (Fin 8)} {m : Fin 8} (h : m ∉ js) :
    s.cavityAfterExpiry i js m = s.cavity i m := if_neg h

theorem State.cavityAfterExpiry_of_mem_take (s : State) (i : Fin 8) {js : List (Fin 8)} {m : Fin 8}
    (h : m ∈ js.take (64 - s.ring.length)) :
    s.cavityAfterExpiry i js m = { s.cavity i m with
      tool := .abandoned, verdict := some (s.freeze i m .abandoned).verdict, record := .recorded } := by
  simp only [State.cavityAfterExpiry, if_pos (List.mem_of_mem_take h), Cavity.placed, if_pos h]

theorem State.cavityAfterExpiry_of_mem_drop (s : State) (i : Fin 8) {js : List (Fin 8)} (hn : js.Nodup) {m : Fin 8}
    (h : m ∈ js.drop (64 - s.ring.length)) :
    s.cavityAfterExpiry i js m = { s.cavity i m with
      tool := .abandoned, verdict := some (s.freeze i m .abandoned).verdict, record := .queued
      frozen := some (s.freeze i m .abandoned) } := by
  have hlate : m ∉ js.take (64 - s.ring.length) := fun ht => List.disjoint_take_drop hn le_rfl ht h
  simp only [State.cavityAfterExpiry, if_pos (List.mem_of_mem_drop h), Cavity.placed, if_neg hlate]

theorem State.afterExpiry_nil (s : State) (i k : Fin 8) :
    s.afterExpiry i k [] = s.setRow i { s.row i with rowTimer := none } := by
  have hcavities : Vec.ofFn (s.cavityAfterExpiry i []) = (s.row i).cavities := Vec.ext_get fun m => by
    rw [Vec.get_ofFn, s.cavityAfterExpiry_of_not_mem i List.not_mem_nil]
    rfl
  have hhigh : ¬(s.ring.length < 48 ∧ 48 ≤ s.ring.length) := by omega
  have hruns : s.runs.set k { s.runs.get k with reserved := (s.runs.get k).reserved - 0 } = s.runs :=
    Vec.set_get_self _ _
  simp only [State.afterExpiry, State.setRow, hcavities, List.take_nil, List.drop_nil, List.map_nil, List.append_nil,
    List.length_nil, hruns, if_neg hhigh]

/-- The ring has a free slot exactly while fewer cavities have been abandoned than it had room for. -/
theorem State.afterExpiry_room_iff (s : State) (i k : Fin 8) (js : List (Fin 8)) :
    (s.afterExpiry i k js).ring.length < 64 ↔ js.length < 64 - s.ring.length := by
  simp only [State.afterExpiry_ring, List.length_append, List.length_map, List.length_take]
  omega

/-- A cavity not yet abandoned is frozen as it was before the expiry. -/
theorem State.afterExpiry_freeze (s : State) (i k : Fin 8) {js : List (Fin 8)} {j : Fin 8} (hj : j ∉ js) :
    (s.afterExpiry i k js).freeze i j .abandoned = s.freeze i j .abandoned := by
  apply State.freeze_congr
  case hrow => rw [State.afterExpiry_row]
  case hcavity => rw [State.afterExpiry_cavity, s.cavityAfterExpiry_of_not_mem i hj]
  all_goals rfl

/-- The cavities of the row when one more is abandoned. -/
theorem State.cavityAfterExpiry_concat (s : State) (i : Fin 8) {js : List (Fin 8)} {j : Fin 8} (hj : j ∉ js) :
    (Vec.ofFn (s.cavityAfterExpiry i js)).modify j (fun c =>
        { c with tool := .abandoned }.placed (s.freeze i j .abandoned) (js.length < 64 - s.ring.length)) =
      Vec.ofFn (s.cavityAfterExpiry i (js ++ [j])) := by
  refine Vec.ext_get fun m => ?_
  rw [Vec.get_modify, Vec.get_ofFn, Vec.get_ofFn]
  by_cases hm : j = m
  · subst hm
    have hplace : j ∈ (js ++ [j]).take (64 - s.ring.length) ↔ js.length < 64 - s.ring.length := by
      have : j ∉ js.take (64 - s.ring.length) := fun h => hj (List.mem_of_mem_take h)
      rw [take_concat]
      split <;> simp_all
    simp [State.cavityAfterExpiry, hj, hplace]
  · have hmem : m ∈ js ++ [j] ↔ m ∈ js := by simp [Ne.symm hm]
    have hplace : m ∈ (js ++ [j]).take (64 - s.ring.length) ↔ m ∈ js.take (64 - s.ring.length) := by
      rw [take_concat]
      split <;> simp [Ne.symm hm]
    simp [State.cavityAfterExpiry, hm, hmem, hplace]

/-- The record of one more cavity enters the ring while it has a free slot. -/
theorem State.afterExpiry_ring_concat (s : State) (i k : Fin 8) (js : List (Fin 8)) (j : Fin 8) :
    (s.afterExpiry i k (js ++ [j])).ring =
      if (s.afterExpiry i k js).ring.length < 64 then (s.afterExpiry i k js).ring ++ [s.freeze i j .abandoned]
      else (s.afterExpiry i k js).ring := by
  simp only [State.afterExpiry_room_iff]
  simp only [State.afterExpiry_ring, take_concat]
  split <;> simp

/-- The one record that brings the ring from 47 to 48 raises RING_HIGH (R128). -/
theorem State.afterExpiry_records_concat (s : State) (i k : Fin 8) (js : List (Fin 8)) (j : Fin 8) :
    let u := s.afterExpiry i k js
    (s.afterExpiry i k (js ++ [j])).ports.records =
      if u.ring.length = 47 then u.ports.records.raise .ringHigh else u.ports.records := by
  intro u
  have hstart : s.ring.length ≤ u.ring.length := by
    rw [State.afterExpiry_ring, List.length_append]
    exact Nat.le_add_right _ _
  have hlength : (s.afterExpiry i k (js ++ [j])).ring.length =
      if u.ring.length < 64 then u.ring.length + 1 else u.ring.length := by
    rw [State.afterExpiry_ring_concat, apply_ite List.length, List.length_append, List.length_singleton]
  have hu : u.ports.records =
      if s.ring.length < 48 ∧ 48 ≤ u.ring.length then s.ports.records.raise .ringHigh else s.ports.records := rfl
  rw [State.afterExpiry_records, hlength, hu]
  by_cases h47 : u.ring.length = 47
  · rw [if_pos h47, if_pos ⟨by omega, by simp [h47]⟩, if_neg (by omega)]
  · rw [if_neg h47]
    refine if_congr ?_ rfl rfl
    split <;> omega

/-- States that differ at most in what due records write are equal where these fields agree. -/
theorem State.ext_due {t u : State}
    (frame : t = { u with
      rows := t.rows, runs := t.runs, ring := t.ring, recordQueue := t.recordQueue
      ports := { u.ports with records := t.ports.records } })
    (rows : t.rows = u.rows) (runs : t.runs = u.runs) (ring : t.ring = u.ring)
    (queue : t.recordQueue = u.recordQueue) (records : t.ports.records = u.ports.records) : t = u := by
  rw [rows, runs, ring, queue, records] at frame
  exact frame

/-- One more cavity of the row is abandoned. -/
theorem State.afterExpiry_abandon {s : State} {i k : Fin 8} (hk : (s.row i).recipe = some k) {js : List (Fin 8)}
    {j : Fin 8} (hj : j ∉ js) : (s.afterExpiry i k js).abandon i j = s.afterExpiry i k (js ++ [j]) := by
  have hrecipe : ((s.afterExpiry i k js).row i).recipe = some k := by rw [State.afterExpiry_row, hk]
  rw [State.abandon_eq hrecipe, s.afterExpiry_freeze i k hj]
  apply State.ext_due
  case frame => rfl
  case rows =>
    rw [State.modifyCavity, State.afterExpiry_row]
    simp only [Row.modifyCavity, State.afterExpiry_room_iff, s.cavityAfterExpiry_concat i hj]
    exact Vec.set_set_self _ _ _ _
  case runs =>
    simp only [State.afterExpiry, Vec.get_set_self, Vec.set_set_self, List.length_append, List.length_singleton,
      Nat.sub_sub]
  case ring => exact (s.afterExpiry_ring_concat i k js j).symm
  case queue =>
    simp only [State.afterExpiry_room_iff]
    simp only [State.afterExpiry, drop_concat]
    split <;> simp
  case records => exact (s.afterExpiry_records_concat i k js j).symm

/-- With the row timer stopped, the expiry goes through a list of cavities in order and abandons those that are IN_TOOL. -/
theorem State.foldl_abandonIfInTool {s : State} {i k : Fin 8} (hk : (s.row i).recipe = some k) {l : List (Fin 8)}
    (hn : l.Nodup) :
    l.foldl (State.abandonIfInTool i) (s.setRow i { s.row i with rowTimer := none }) =
      s.afterExpiry i k (l.filter fun j => decide ((s.cavity i j).tool = .inTool)) := by
  induction l using List.reverseRecOn with
  | nil => exact (s.afterExpiry_nil i k).symm
  | append_singleton l j ih =>
    obtain ⟨hl, -, hdisjoint⟩ := List.nodup_append.1 hn
    have hj : j ∉ l.filter fun j => decide ((s.cavity i j).tool = .inTool) := fun h =>
      hdisjoint j (List.mem_of_mem_filter h) j (List.mem_singleton_self j) rfl
    rw [List.foldl_append, ih hl, List.filter_append, List.foldl_cons, List.foldl_nil, State.abandonIfInTool,
      State.afterExpiry_cavity, s.cavityAfterExpiry_of_not_mem i hj]
    by_cases htool : (s.cavity i j).tool = .inTool
    · rw [if_pos htool, State.afterExpiry_abandon hk hj, List.filter_singleton, decide_eq_true htool, cond_true]
    · rw [if_neg htool, List.filter_singleton, decide_eq_false htool, cond_false, List.append_nil]

/-! ### The expiry of the demould window (R113) -/

/-- The cavities of a row that are IN_TOOL, in cavity number order. -/
def State.inToolCavities (s : State) (i : Fin 8) : List (Fin 8) :=
  (List.finRange 8).filter fun j => decide ((s.cavity i j).tool = .inTool)

theorem State.nodup_inToolCavities (s : State) (i : Fin 8) : (s.inToolCavities i).Nodup :=
  (List.nodup_finRange 8).filter _

theorem State.mem_inToolCavities_iff (s : State) (i j : Fin 8) :
    j ∈ s.inToolCavities i ↔ (s.cavity i j).tool = .inTool := by
  simp [State.inToolCavities]

theorem State.anyInTool_iff (s : State) (i : Fin 8) :
    ((s.row i).cavities.any fun c => c.tool == .inTool) = true ↔ s.inToolCavities i ≠ [] := by
  simp only [Vec.any_iff, beq_iff_eq, ne_eq, List.eq_nil_iff_forall_not_mem, not_forall, not_not,
    State.mem_inToolCavities_iff]
  rfl

/-- The state after the expiry of the demould window of row `i`, which names slot `k`: every IN_TOOL cavity abandoned, and
DEMOULD_EXPIRED where there was one. -/
def State.demouldExpired (s : State) (i k : Fin 8) : State :=
  let abandoned := s.inToolCavities i
  { s.afterExpiry i k abandoned with
    ports := { (s.afterExpiry i k abandoned).ports with
      extract := if abandoned ≠ [] then s.ports.extract.raise .demouldExpired else s.ports.extract } }

theorem exec_demouldExpiry (i : Fin 8) (s : State) : exec (.demouldExpiry i) s = execDemouldExpiry i s := rfl

theorem exec_demouldExpiry_of_opened {s : State} {i k : Fin 8} {ms : Nat} (ho : (s.row i).state = .opened)
    (ht : (s.row i).rowTimer = some ms) (hk : (s.row i).recipe = some k) :
    exec (.demouldExpiry i) s = .next (s.demouldExpired i k) := by
  have hrun : (s.row i).state = .opened ∧ (s.row i).rowTimer.isSome := ⟨ho, by rw [ht]; rfl⟩
  rw [exec_demouldExpiry, execDemouldExpiry, if_pos hrun]
  simp only [State.foldl_abandonIfInTool hk (List.nodup_finRange 8), s.anyInTool_iff]
  simp only [State.demouldExpired]
  split <;> rfl

theorem State.demouldExpired_row (s : State) (i k : Fin 8) :
    (s.demouldExpired i k).row i =
      { s.row i with rowTimer := none, cavities := .ofFn (s.cavityAfterExpiry i (s.inToolCavities i)) } :=
  s.afterExpiry_row i k _

theorem State.demouldExpired_cavity (s : State) (i k j : Fin 8) :
    (s.demouldExpired i k).cavity i j = s.cavityAfterExpiry i (s.inToolCavities i) j :=
  s.afterExpiry_cavity i k _ j

end Sys2Proof.Machine
end

section
open Sys2Proof Sys2Proof.Machine

/-- Settles O55: the cavities are abandoned one after the other, so those that find a free ring slot come first. -/
theorem demouldExpiryAbandonsTheRow : Obligations.DemouldExpiryAbandonsTheRow := by
  intro s i k ms ho ht hk
  have hcavity := s.demouldExpired_cavity i k
  refine ⟨s.demouldExpired i k, exec_demouldExpiry_of_opened ho ht hk,
    fun j _ => ⟨rfl, rfl, rfl, s.freeze_abandoned_verdict i j⟩, fun j hj => ?recorded, fun j hj => ?queued,
    fun j hj => ?others, ?frame⟩
  case recorded => exact (hcavity j).trans (s.cavityAfterExpiry_of_mem_take i hj)
  case queued => exact (hcavity j).trans (s.cavityAfterExpiry_of_mem_drop i (s.nodup_inToolCavities i) hj)
  case others => exact (hcavity j).trans (s.cavityAfterExpiry_of_not_mem i (mt (s.mem_inToolCavities_iff i j).1 hj))
  case frame =>
    rw [State.demouldExpired_row]
    rfl
end

section
/-! The records and the ring (R121 to R130): what a frozen record reads, where the run completes, and the hand-over of a
freed ring slot to the head of the record queue; then the statement. -/

namespace Sys2Proof.Machine

/-! ### The verdict and the run accounting of a due record (R123 to R125) -/

/-- On a cavity with its charge record the override condition is the record's flag. -/
theorem verdictOf_of_charged {c : Cavity} {charge : ChargeRecord} (h : c.chargeRec = some charge) (r : Recipe)
    (outcome : ToolOutcome) :
    verdictOf r c outcome =
      if c.cure = .forced then .forced
      else if outcome = .stuck then .stuck
      else if outcome = .abandoned then .abandoned
      else if r.scorchAllowance < c.scorch then .scorched
      else if c.cure = .timedOut then .undercure
      else if r.blindAllowance < c.blind then .suspect
      else if charge.override = true then .outOfTolerance
      else .good := by
  rw [verdictOf, h]
  rfl

theorem RunEntry.completes_iff (e : RunEntry) (v : Verdict) :
    e.completes v = true ↔ (e.mode = .counted ∧ v = .good) ∧ e.remaining = 1 := by simp [RunEntry.completes]

/-! ### A sent record (R129) -/

/-- A QUEUED cavity's frozen record enters the ring and leaves the slot. -/
theorem State.recordQueued_eq {s : State} {i j : Fin 8} {r : PartRecord} (h : (s.cavity i j).frozen = some r) :
    s.recordQueued i j = { s.modifyCavity i j fun c => { c with record := .recorded, frozen := none } with
      ring := s.ring ++ [r]
      ports := { s.ports with
        records := if s.ring.length = 47 then s.ports.records.raise .ringHigh else s.ports.records } } := by
  rw [State.recordQueued, h]
  exact State.enterRing_eq _ r

/-- With a cavity at the head of the record queue, its record takes the ring slot that the sent one leaves, and its
row's freeing condition is evaluated. -/
theorem State.recordSent_cons {s : State} {i j : Fin 8} {rest : List (Fin 8 × Fin 8)} {r : PartRecord}
    (hqueue : s.recordQueue = (i, j) :: rest) (hfrozen : (s.cavity i j).frozen = some r) :
    s.recordSent = ({ s.modifyCavity i j fun c => { c with record := .recorded, frozen := none } with
      ring := s.ring.tail ++ [r]
      recordQueue := rest
      ports := { s.ports with
        records := if s.ring.tail.length = 47 then s.ports.records.raise .ringHigh else s.ports.records } } :
      State).tryFree i := by
  rw [State.recordSent, hqueue]
  exact congrArg (State.tryFree · i)
    (State.recordQueued_eq (s := { s with ring := s.ring.tail, recordQueue := rest }) hfrozen)

end Sys2Proof.Machine
end

section
open Sys2Proof Sys2Proof.Machine

/-- Settles O53: the frozen record, the due event that places it, and the two cases of a sent record. -/
theorem recordsEnterAndLeaveTheRing : Obligations.RecordsEnterAndLeaveTheRing := by
  refine ⟨fun s i j k outcome shot target closedAt charge hk hshot hclosed hcharge htarget => ?due,
    fun s => ⟨State.recordSent_nil, fun i j rest frozen hqueue hfrozen => ?sent⟩⟩
  case due =>
    intro c r e verdict record room consumed completes told
    have hverdict : verdictOf r c outcome = verdict := verdictOf_of_charged hcharge r outcome
    have hfreeze : s.freeze i j outcome = record := by
      rw [State.freeze, State.rowRecipe_of_some hk, hk, hshot, hclosed, hcharge, htarget, hverdict]
      rfl
    have htold (q : Port) : (if (s.runs.get k).completes record.verdict then q.raise .runComplete else q) = told q :=
      if_congr (e.completes_iff verdict) rfl rfl
    refine ⟨hfreeze, ?_⟩
    rw [State.recordDue_eq hk, hfreeze]
    simp only [htold]
    rfl
  case sent =>
    intro u done
    rw [State.recordSent_cons hqueue hfrozen]
    exact u.tryFree_eq i
end

section
/-! The records streamer: the bytes of a part record (R142 to R144), the readback items (R138), and what an expiry of the
unit timer sends (R133 to R141). The stream bytes of one unit are cut where a record of the ring ends. -/

namespace Sys2Proof.Machine

/-! ### The serialised part record (R142 to R144) -/

theorem be4_eq (n : Nat) : be4 n = be2 (n / 65536) ++ be2 n := by
  simp only [be2, be4, Nat.div_div_eq_div_mul, List.cons_append, List.nil_append]

theorem traceTail_concat (last a b : Int) (points : List Int) :
    traceTail last (points ++ [a, b]) = traceTail last (points ++ [a]) ++
      if -127 ≤ b - a ∧ b - a ≤ 127 then [BitVec.ofInt 8 (b - a)] else 0x80#8 :: be2Signed b := by
  induction points generalizing last with
  | nil => simp only [List.nil_append, traceTail, List.append_nil]
  | cons p ps ih => simp only [List.cons_append, traceTail, ih, List.append_assoc]

theorem traceBytes_singleton (p : Int) : traceBytes [p] = be2Signed p := List.append_nil _

theorem traceBytes_concat (points : List Int) (a b : Int) :
    traceBytes (points ++ [a, b]) = traceBytes (points ++ [a]) ++
      if -127 ≤ b - a ∧ b - a ≤ 127 then [BitVec.ofInt 8 (b - a)] else 0x80#8 :: be2Signed b := by
  cases points with
  | nil => simp only [List.nil_append, traceBytes, traceTail, List.append_nil]
  | cons p ps => simp only [List.cons_append, traceBytes, traceTail_concat, List.append_assoc]

theorem PartRecord.length_body (r : PartRecord) :
    r.body.length + 3 = 40 + 4 * r.notes.length + (traceBytes r.trace).length := by
  have notes : (r.notes.flatMap Note.bytes).length = 4 * r.notes.length := by
    rw [List.length_flatMap, List.map_congr_left fun n _ => (rfl : n.bytes.length = 4)]
    simp [Nat.mul_comm]
  cases hpeak : r.peak <;>
    simp only [PartRecord.body, be2Signed, be2, be4, hpeak, List.length_flatten, List.map_cons, List.map_nil,
      List.sum_cons, List.sum_nil, List.length_cons, List.length_nil, notes] <;>
    omega

theorem PartRecord.length_bytes (r : PartRecord) :
    r.bytes.length = 40 + 4 * r.notes.length + (traceBytes r.trace).length := by
  rw [← r.length_body, PartRecord.bytes, List.length_cons, List.length_append]
  simp only [be2, List.length_cons, List.length_nil]
  omega

theorem PartRecord.attemptsByte_of_le {r : PartRecord} (h : r.attempts ≤ 7) : r.attemptsByte =
    r.attempts + (if r.timePressOpened = none then 64 else 0) + (if r.override then 128 else 0) := by
  rw [PartRecord.attemptsByte, Nat.mod_eq_of_lt (Nat.lt_succ_of_le h)]
  simp only [Option.isNone_iff_eq_none]

/-! ### The readback items (R138) -/

theorem State.itemValue_of_reading {s : State} {z : Fin 12} {reading : Int}
    (h : (s.regulator.zones.get z).reading = some reading) : s.itemValue z.val = be2Signed reading := by
  rw [State.itemValue, dif_pos z.isLt, h]

theorem State.itemValue_of_no_reading {s : State} {z : Fin 12} (h : (s.regulator.zones.get z).reading = none) :
    s.itemValue z.val = [0x80#8, 0x00#8] := by
  rw [State.itemValue, dif_pos z.isLt, h]

theorem State.itemValue_duty (s : State) (z : Fin 12) :
    s.itemValue (16 + z.val) = be2 (s.regulator.zones.get z).duty := by
  have zone : (⟨16 + z.val - 16, by omega⟩ : Fin 12) = z := Fin.ext (Nat.add_sub_cancel_left ..)
  rw [State.itemValue, dif_neg (by omega), dif_pos (by omega), zone]

theorem State.itemValue_progress (s : State) (j : Fin 8) : s.itemValue (32 + j.val) = be2 (s.progressItem j) := by
  have cavity : (⟨32 + j.val - 32, by omega⟩ : Fin 8) = j := Fin.ext (Nat.add_sub_cancel_left ..)
  rw [State.itemValue, dif_neg (by omega), dif_neg (by omega), dif_pos (by omega), cavity]

theorem State.itemValue_pan (s : State) : s.itemValue 40 = s.weigh.pan.elim [0xFF#8, 0xFE#8] be2 := by
  have value : s.itemValue 40 = be2 (s.weigh.pan.getD 0xFFFE) := rfl
  rw [value]
  cases s.weigh.pan <;> rfl

theorem State.oldestCuring_eq_none {s : State} (h : ∀ i, (s.row i).state ≠ .curing) : s.oldestCuring = none := by
  simp [State.oldestCuring, h]

/-- A row in use is the one that the search for its rank finds. -/
theorem State.find_rank {s : State} (law : s.RankLaw) {i : Fin 8} {m : Nat} (hi : (s.row i).state ≠ .free)
    (hm : (s.row i).rank = some (m + 1)) : s.rows.find (fun r => r.live && r.rank == some (m + 1)) = some i := by
  refine Vec.find_unique ?own fun k hk => ?unique
  case own => simpa [State.row] using And.intro hi hm
  case unique =>
    obtain ⟨hlive, hrank⟩ : (s.row k).state ≠ .free ∧ (s.row k).rank = some (m + 1) := by
      simpa [State.row] using hk
    exact law.distinct k i hlive hi (hrank.trans hm.symm)

/-- The row in CURING of the lowest rank is the first of the age order that is in CURING (R3). -/
theorem State.oldestCuring_eq_some {s : State} (law : s.RankLaw) {i : Fin 8} (hi : (s.row i).state = .curing)
    (least : ∀ m, (s.row m).state = .curing → (s.row i).rank.getD 0 ≤ (s.row m).rank.getD 0) :
    s.oldestCuring = some i := by
  have hlive : (s.row i).state ≠ .free := by simp [hi]
  obtain ⟨n, hn, low, high⟩ := law.range i hlive
  obtain ⟨m, rfl⟩ := Nat.exists_eq_add_of_le' low
  have hm : m < 8 := by
    have rows : s.liveRows ≤ 8 := List.countP_le_length
    omega
  have found := State.find_rank law hlive hn
  have first : (List.range 8).find? (fun m => (s.rows.find fun r => r.live && r.rank == some (m + 1)).any
      fun i => (s.row i).state == .curing) = some m := by
    refine List.find?_range_eq_some.2 ⟨by simp [found, hi], List.mem_range.2 hm, fun k hk => ?_⟩
    cases hf : s.rows.find fun r => r.live && r.rank == some (k + 1) with
    | none => rfl
    | some o =>
      obtain ⟨-, hrank⟩ : (s.row o).state ≠ .free ∧ (s.row o).rank = some (k + 1) := by
        simpa [State.row] using Vec.find_eq_some hf
      have notCuring : (s.row o).state ≠ .curing := fun ho => by
        have := least o ho
        simp only [hn, hrank, Option.getD_some] at this
        omega
      simp [notCuring]
  rw [State.oldestCuring, State.ageOrder, List.find?_filterMap, first]
  exact found

theorem State.progressItem_of_none {s : State} (h : s.oldestCuring = none) (j : Fin 8) : s.progressItem j = 0xFFFF := by
  rw [State.progressItem, h]

theorem State.progressItem_of_some {s : State} {i : Fin 8} (h : s.oldestCuring = some i) (j : Fin 8) :
    s.progressItem j = if (s.cavity i j).charge = .charged then (s.cavity i j).progress else 0xFFFF := by
  simp [State.progressItem, h, Cavity.partBearing]

/-! ### The streamer's part of the state -/

/-- The state with its records streamer replaced. -/
def State.withStreamer (s : State) (t : Streamer) : State := { s with streamer := t }

@[simp] theorem State.withStreamer_streamer (s : State) (t : Streamer) : (s.withStreamer t).streamer = t := rfl
@[simp] theorem State.withStreamer_ring (s : State) (t : Streamer) : (s.withStreamer t).ring = s.ring := rfl
@[simp] theorem State.withStreamer_settings (s : State) (t : Streamer) : (s.withStreamer t).settings = s.settings := rfl
@[simp] theorem State.withStreamer_withStreamer (s : State) (t u : Streamer) :
    (s.withStreamer t).withStreamer u = s.withStreamer u := rfl

theorem State.setStream_eq (s : State) (st : Option Stream) :
    s.setStream st = s.withStreamer { s.streamer with stream := st } := rfl

theorem State.setStream_self {s : State} {st : Option Stream} (h : s.streamer.stream = st) : s.setStream st = s := by
  subst h
  rfl

theorem State.tryFree_withStreamer (s : State) (t : Streamer) (i : Fin 8) :
    (s.withStreamer t).tryFree i = (s.tryFree i).withStreamer t := by
  by_cases h : (s.row i).freeable = true
  · have h' : ((s.withStreamer t).row i).freeable = true := h
    simp only [State.tryFree, if_pos h, if_pos h', State.freeRow_eq]
    rfl
  · have h' : ¬((s.withStreamer t).row i).freeable = true := h
    simp only [State.tryFree, if_neg h, if_neg h']

theorem State.recordQueued_withStreamer (s : State) (t : Streamer) (i j : Fin 8) :
    (s.withStreamer t).recordQueued i j = (s.recordQueued i j).withStreamer t := by
  cases h : (s.cavity i j).frozen with
  | none =>
    have h' : ((s.withStreamer t).cavity i j).frozen = none := h
    simp only [State.recordQueued, h, h']
    rfl
  | some r =>
    rw [State.recordQueued_eq h, State.recordQueued_eq (s := s.withStreamer t) h]
    rfl

/-- A sent record leaves the ring whatever the streamer holds, and the streamer keeps it (R129). -/
theorem State.recordSent_withStreamer (s : State) (t : Streamer) :
    (s.withStreamer t).recordSent = s.recordSent.withStreamer t := by
  cases h : s.recordQueue with
  | nil => rw [State.recordSent_nil h, State.recordSent_nil (s := s.withStreamer t) h]; rfl
  | cons c rest =>
    have h' : (s.withStreamer t).recordQueue = c :: rest := h
    simp only [State.recordSent, h, h', ← State.tryFree_withStreamer, ← State.recordQueued_withStreamer]
    rfl

@[simp] theorem State.recordSent_streamer (s : State) : s.recordSent.streamer = s.streamer :=
  calc s.recordSent.streamer = (s.withStreamer s.streamer).recordSent.streamer := rfl
    _ = s.streamer := by rw [State.recordSent_withStreamer, State.withStreamer_streamer]

theorem State.setStream_recordSent (s : State) (st : Option Stream) :
    (s.setStream st).recordSent = s.recordSent.setStream st := by
  simp only [State.setStream_eq, State.recordSent_withStreamer, State.recordSent_streamer]

theorem State.setStream_setStream (s : State) (st st' : Option Stream) :
    (s.setStream st).setStream st' = s.setStream st' := rfl

theorem State.tryFree_settings (s : State) (i : Fin 8) : (s.tryFree i).settings = s.settings := by
  simp only [State.tryFree_eq, State.freeRow_eq]
  split <;> rfl

theorem State.recordQueued_settings (s : State) (i j : Fin 8) : (s.recordQueued i j).settings = s.settings := by
  cases h : (s.cavity i j).frozen with
  | none => simp only [State.recordQueued, h]; rfl
  | some r => rw [State.recordQueued_eq h]; rfl

@[simp] theorem State.recordSent_settings (s : State) : s.recordSent.settings = s.settings := by
  cases h : s.recordQueue with
  | nil => rw [State.recordSent_nil h]
  | cons c rest => simp only [State.recordSent, h, State.tryFree_settings, State.recordQueued_settings]

/-! ### The end of a record (R129, R140, R141) -/

/-- The stream goes on with the oldest record then in the ring. -/
theorem State.endRecord_of_more {s : State} {ended : Nat} (h : ended + 1 < s.settings.ne)
    (hring : s.recordSent.ring ≠ []) : s.endRecord ended = s.recordSent.setStream (some ⟨ended + 1, 0⟩) :=
  if_pos ⟨by rwa [State.recordSent_settings], hring⟩

/-- The stream ends after NE records, or with the ring empty. -/
theorem State.endRecord_of_last {s : State} {ended : Nat} (h : s.settings.ne ≤ ended + 1 ∨ s.recordSent.ring = []) :
    s.endRecord ended = s.recordSent.setStream none := by
  refine if_neg fun ⟨hne, hring⟩ => ?_
  rw [State.recordSent_settings] at hne
  exact h.elim (Nat.not_le.2 hne) hring

/-! ### The stream bytes of a unit (R140) -/

theorem getD_of_drop_eq_cons {α : Type} {l left : List α} {p : Nat} {b : α} (h : l.drop p = b :: left) (d : α) :
    l.getD p d = b := by
  rw [List.getD_eq_getElem?_getD, ← List.head?_drop, h]
  rfl

theorem succ_lt_length_iff_of_drop_eq_cons {α : Type} {l left : List α} {p : Nat} {b : α} (h : l.drop p = b :: left) :
    p + 1 < l.length ↔ left ≠ [] := by
  have : left = l.drop (p + 1) := by rw [← List.tail_drop, h, List.tail_cons]
  simp [this]

section
variable {s : State} {r : PartRecord} {rest : List PartRecord} {ended position : Nat} {b : Byte} {left : List Byte}

/-- A byte with more of its record behind it. -/
theorem streamBytes_succ_within (hst : s.streamer.stream = some ⟨ended, position⟩) (hring : s.ring = r :: rest)
    (hdrop : r.bytes.drop position = b :: left) (hleft : left ≠ []) (n : Nat) :
    streamBytes (n + 1) s = (streamBytes n (s.setStream (some ⟨ended, position + 1⟩))).map (b :: ·) id := by
  rw [streamBytes, hst, hring]
  simp only [getD_of_drop_eq_cons hdrop, if_pos ((succ_lt_length_iff_of_drop_eq_cons hdrop).2 hleft)]
  rfl

/-- The last byte of a record that another one follows in the stream. -/
theorem streamBytes_succ_more (hst : s.streamer.stream = some ⟨ended, position⟩) (hring : s.ring = r :: rest)
    (hdrop : r.bytes.drop position = [b]) (hne : ended + 1 < s.settings.ne) (hmore : s.recordSent.ring ≠ []) (n : Nat) :
    streamBytes (n + 1) s = (streamBytes n (s.recordSent.setStream (some ⟨ended + 1, 0⟩))).map (b :: ·) id := by
  rw [streamBytes, hst, hring]
  simp only [getD_of_drop_eq_cons hdrop, if_neg fun h => (succ_lt_length_iff_of_drop_eq_cons hdrop).1 h rfl,
    State.endRecord_of_more hne hmore]
  rfl

/-- The last byte of a stream: zeros fill the unit, and an end record that finds no room is owed. -/
theorem streamBytes_succ_last (hst : s.streamer.stream = some ⟨ended, position⟩) (hring : s.ring = r :: rest)
    (hdrop : r.bytes.drop position = [b]) (hlast : s.settings.ne ≤ ended + 1 ∨ s.recordSent.ring = []) (n : Nat) :
    streamBytes (n + 1) s = (b :: List.replicate n 0#8, s.recordSent.withStreamer { s.streamer with
      stream := none, endOwed := s.streamer.endOwed || (decide (n = 0) && s.settings.endMarker) }) := by
  rw [streamBytes, hst, hring]
  simp only [getD_of_drop_eq_cons hdrop, if_neg fun h => (succ_lt_length_iff_of_drop_eq_cons hdrop).1 h rfl,
    State.endRecord_of_last hlast, State.setStream_settings, ← s.recordSent_streamer, ← s.recordSent_settings]
  refine congrArg (Prod.mk _) ?_
  by_cases howed : n = 0 ∧ s.recordSent.settings.endMarker = true
  · have : (s.recordSent.streamer.endOwed || (decide (n = 0) && s.recordSent.settings.endMarker)) = true := by
      rw [howed.1, howed.2]
      exact Bool.or_true _
    rw [if_pos howed, this]
    rfl
  · have : (decide (n = 0) && s.recordSent.settings.endMarker) = false := by simpa using howed
    rw [if_neg howed, this, Bool.or_false]
    rfl

/-- Within a record, the next bytes of the unit are the record's. -/
theorem streamBytes_within {taken : List Byte} (hst : s.streamer.stream = some ⟨ended, position⟩)
    (hring : s.ring = r :: rest) (hdrop : r.bytes.drop position = taken ++ left) (hleft : left ≠ []) (n : Nat) :
    streamBytes (taken.length + n) s =
      (streamBytes n (s.setStream (some ⟨ended, position + taken.length⟩))).map (taken ++ ·) id := by
  induction taken generalizing s position with
  | nil =>
    rw [List.length_nil, Nat.zero_add, Nat.add_zero, State.setStream_self hst]
    rfl
  | cons b taken ih =>
    have hdrop' : r.bytes.drop (position + 1) = taken ++ left := by
      rw [← List.tail_drop, hdrop, List.cons_append, List.tail_cons]
    rw [List.length_cons, Nat.succ_add, streamBytes_succ_within hst hring hdrop (by simp [hleft]),
      ih (s := s.setStream (some ⟨ended, position + 1⟩)) rfl hring hdrop', Nat.add_assoc, Nat.add_comm 1]
    rfl

/-- What is left of a record in the stream ends with its last byte. -/
theorem drop_bytes_eq_concat (h : position < r.bytes.length) :
    ∃ init b, r.bytes.drop position = init ++ [b] ∧ r.bytes.drop (position + init.length) = [b] := by
  obtain ⟨init, b, hdrop⟩ := (r.bytes.drop position).eq_nil_or_concat'.resolve_left (by simpa using h)
  exact ⟨init, b, hdrop, by rw [← List.drop_drop, hdrop, List.drop_left]⟩

/-- A unit that ends within a record. -/
theorem streamBytes_take (hst : s.streamer.stream = some ⟨ended, position⟩) (hring : s.ring = r :: rest) {n : Nat}
    (h : position + n < r.bytes.length) :
    streamBytes n s = ((r.bytes.drop position).take n, s.setStream (some ⟨ended, position + n⟩)) := by
  have hlength : ((r.bytes.drop position).take n).length = n := by
    rw [List.length_take, List.length_drop]
    omega
  have hleft : (r.bytes.drop position).drop n ≠ [] := by simpa [Nat.add_comm] using h
  have hbytes := streamBytes_within hst hring (List.take_append_drop n (r.bytes.drop position)).symm hleft 0
  simpa [hlength, streamBytes] using hbytes

/-- A unit that carries what is left of a record, up to that record's last byte. -/
theorem streamBytes_to_last {init : List Byte} (hst : s.streamer.stream = some ⟨ended, position⟩)
    (hring : s.ring = r :: rest) (hdrop : r.bytes.drop position = init ++ [b]) (n : Nat) :
    streamBytes ((init ++ [b]).length + n) s =
      (streamBytes (n + 1) (s.setStream (some ⟨ended, position + init.length⟩))).map (init ++ ·) id := by
  rw [← streamBytes_within hst hring hdrop (List.cons_ne_nil b []), List.length_append, Nat.add_assoc,
    Nat.add_comm [b].length]
  rfl

/-- The rest of a record, then the bytes of the record that follows it. -/
theorem streamBytes_record_more (hst : s.streamer.stream = some ⟨ended, position⟩) (hring : s.ring = r :: rest)
    (hpos : position < r.bytes.length) (hne : ended + 1 < s.settings.ne) (hmore : s.recordSent.ring ≠ []) (n : Nat) :
    streamBytes ((r.bytes.drop position).length + n) s =
      (streamBytes n (s.recordSent.setStream (some ⟨ended + 1, 0⟩))).map (r.bytes.drop position ++ ·) id := by
  obtain ⟨init, b, hdrop, hlast⟩ := drop_bytes_eq_concat hpos
  have hsent := s.setStream_recordSent (some ⟨ended, position + init.length⟩)
  rw [hdrop, streamBytes_to_last hst hring hdrop,
    streamBytes_succ_more (s := s.setStream _) rfl hring hlast hne (by rwa [hsent]), hsent, State.setStream_setStream]
  simp [Prod.map]

/-- The rest of a stream's last record, then zeros. -/
theorem streamBytes_record_last (hst : s.streamer.stream = some ⟨ended, position⟩) (hring : s.ring = r :: rest)
    (hpos : position < r.bytes.length) (hlast : s.settings.ne ≤ ended + 1 ∨ s.recordSent.ring = []) (n : Nat) :
    streamBytes ((r.bytes.drop position).length + n) s = (r.bytes.drop position ++ List.replicate n 0#8,
      s.recordSent.withStreamer { s.streamer with
        stream := none, endOwed := s.streamer.endOwed || (decide (n = 0) && s.settings.endMarker) }) := by
  obtain ⟨init, b, hdrop, hbyte⟩ := drop_bytes_eq_concat hpos
  have hsent := s.setStream_recordSent (some ⟨ended, position + init.length⟩)
  rw [hdrop, streamBytes_to_last hst hring hdrop,
    streamBytes_succ_last (s := s.setStream _) rfl hring hbyte (by rwa [hsent]), hsent]
  simp [Prod.map, State.setStream_eq]

end

/-! ### The unit of an expiry (R133 to R137, R140) -/

/-- The state at an expiry of the unit timer, before a unit is sent. -/
def State.atExpiry (s : State) : State := s.withStreamer { s.streamer with unitTimer := 1, unitOut := none }

theorem exec_unitTimer_of_not_ready {s : State} (h : s.pins.readyLine = false) :
    exec .unitTimer s = .next s.atExpiry := if_neg (by simp [h])

theorem exec_unitTimer_of_ready {s : State} (h : s.pins.readyLine = true) :
    exec .unitTimer s = .next s.atExpiry.sendNextUnit := if_pos h

section
variable {s : State}

theorem State.sendNextUnit_status (h : s.settings.nd ≤ s.streamer.unitCount) : s.sendNextUnit = s.sendStatus := if_pos h

theorem State.sendNextUnit_owed (h : s.streamer.unitCount < s.settings.nd) (howed : s.streamer.endOwed = true) :
    s.sendNextUnit = s.sendEndMarker := by
  rw [State.sendNextUnit, if_neg (Nat.not_le.2 h), if_pos howed]

theorem State.sendNextUnit_stream (h : s.streamer.unitCount < s.settings.nd) (howed : s.streamer.endOwed = false)
    {st : Stream} (hst : s.streamer.stream = some st) : s.sendNextUnit = s.sendStream 0x01#8 := by
  simp [State.sendNextUnit, Nat.not_le.2 h, howed, hst]

theorem State.sendNextUnit_start (h : s.streamer.unitCount < s.settings.nd) (howed : s.streamer.endOwed = false)
    (hst : s.streamer.stream = none) (hring : s.ring ≠ []) :
    s.sendNextUnit = (s.setStream (some ⟨0, 0⟩)).sendStream 0x81#8 := by
  simp [State.sendNextUnit, Nat.not_le.2 h, howed, hst, hring]

theorem State.sendNextUnit_idle (h : s.streamer.unitCount < s.settings.nd) (howed : s.streamer.endOwed = false)
    (hst : s.streamer.stream = none) (hring : s.ring = []) :
    s.sendNextUnit = s.sendUnit 0x00#8 (List.replicate 7 0#8) := by
  simp [State.sendNextUnit, Nat.not_le.2 h, howed, hst, hring]

theorem State.sendStream_eq {kind : Byte} {payload : List Byte} {t : State} (h : streamBytes 7 s = (payload, t)) :
    s.sendStream kind = t.sendUnit kind payload := by
  rw [State.sendStream, h]

end

/-- A DATA unit of a stream in progress, from the stream bytes it carries. -/
theorem exec_unitTimer_of_stream {s u : State} {st : Stream} {payload : List Byte} {stream : Option Stream}
    {owed : Bool} (hready : s.pins.readyLine = true) (hdata : s.streamer.unitCount < s.settings.nd)
    (howed : s.streamer.endOwed = false) (hst : s.streamer.stream = some st)
    (hbytes : streamBytes 7 s.atExpiry =
      (payload, u.withStreamer { s.atExpiry.streamer with stream := stream, endOwed := owed })) :
    exec .unitTimer s = .next (u.withStreamer { s.streamer with
      unitTimer := 1, unitOut := some (0x01#8 :: payload), unitCount := s.streamer.unitCount + 1, stream := stream,
      endOwed := owed }) := by
  rw [exec_unitTimer_of_ready hready, State.sendNextUnit_stream (s := s.atExpiry) hdata howed hst,
    State.sendStream_eq hbytes]
  rfl

/-- A record is longer than the stream bytes of one unit. -/
theorem PartRecord.seven_lt_length_bytes (r : PartRecord) : 7 < r.bytes.length := by
  rw [r.length_bytes]
  omega

/-- The first bytes of a record, at its start. -/
theorem streamBytes_start {s : State} {r : PartRecord} {rest : List PartRecord} {ended n : Nat}
    (hst : s.streamer.stream = some ⟨ended, 0⟩) (hring : s.ring = r :: rest) (hn : n ≤ 7) :
    streamBytes n s = (r.bytes.take n, s.setStream (some ⟨ended, n⟩)) := by
  have := r.seven_lt_length_bytes
  simpa using streamBytes_take (n := n) hst hring (by omega)

@[simp] theorem State.recordSent_atExpiry (s : State) : s.atExpiry.recordSent = s.recordSent.atExpiry := by
  simp [State.atExpiry, State.recordSent_withStreamer]

section
variable {s : State} {st : Stream} {r : PartRecord} {rest : List PartRecord} (hready : s.pins.readyLine = true)
  (hdata : s.streamer.unitCount < s.settings.nd) (howed : s.streamer.endOwed = false)
  (hst : s.streamer.stream = some st) (hring : s.ring = r :: rest) (hpos : st.position < r.bytes.length)
  (hend : r.bytes.length ≤ st.position + 7)
include hend

theorem length_drop_bytes_add : (r.bytes.drop st.position).length + (7 - (r.bytes.drop st.position).length) = 7 := by
  rw [List.length_drop]
  omega

include hready hdata howed hst hring hpos

/-- The unit carries the last bytes of a record and the first ones of the next. -/
theorem exec_unitTimer_of_record_more {next : PartRecord} {more : List PartRecord}
    (hne : st.ended + 1 < s.settings.ne) (hmore : s.recordSent.ring = next :: more) :
    exec .unitTimer s = .next (s.recordSent.withStreamer { s.streamer with
      unitTimer := 1
      unitOut := some (0x01#8 :: (r.bytes.drop st.position ++ next.bytes.take (7 - (r.bytes.drop st.position).length)))
      unitCount := s.streamer.unitCount + 1
      stream := some ⟨st.ended + 1, 7 - (r.bytes.drop st.position).length⟩
      endOwed := s.streamer.endOwed }) := by
  refine exec_unitTimer_of_stream hready hdata howed hst ?_
  have hring' : s.atExpiry.recordSent.ring ≠ [] := by
    rw [State.recordSent_atExpiry]
    exact ne_of_eq_of_ne hmore (List.cons_ne_nil next more)
  have hbytes := streamBytes_record_more (s := s.atExpiry) hst hring hpos hne hring'
    (7 - (r.bytes.drop st.position).length)
  rw [length_drop_bytes_add hend, State.recordSent_atExpiry,
    streamBytes_start (s := s.recordSent.atExpiry.setStream _) rfl hmore (Nat.sub_le 7 _)] at hbytes
  simpa [State.setStream_eq, State.atExpiry] using hbytes

/-- The unit carries the last bytes of a stream and zeros. -/
theorem exec_unitTimer_of_record_last (hlast : s.settings.ne ≤ st.ended + 1 ∨ s.recordSent.ring = []) :
    exec .unitTimer s = .next (s.recordSent.withStreamer { s.streamer with
      unitTimer := 1
      unitOut := some (0x01#8 ::
        (r.bytes.drop st.position ++ List.replicate (7 - (r.bytes.drop st.position).length) 0#8))
      unitCount := s.streamer.unitCount + 1
      stream := none
      endOwed := decide ((r.bytes.drop st.position).length = 7) && s.settings.endMarker }) := by
  refine exec_unitTimer_of_stream hready hdata howed hst ?_
  have hfull : 7 - (r.bytes.drop st.position).length = 0 ↔ (r.bytes.drop st.position).length = 7 := by
    have := length_drop_bytes_add (st := st) hend
    omega
  have hbytes := streamBytes_record_last (s := s.atExpiry) hst hring hpos (by rwa [State.recordSent_atExpiry])
    (7 - (r.bytes.drop st.position).length)
  rw [length_drop_bytes_add hend, State.recordSent_atExpiry] at hbytes
  simpa only [hfull, howed, State.atExpiry, State.withStreamer_streamer, State.withStreamer_settings,
    State.withStreamer_withStreamer, Bool.false_or] using hbytes

end

theorem Streamer.statusCode_byte (t : Streamer) : BitVec.ofNat 8 t.statusCode =
    (if t.fault then 1#8 else 0#8) + (if t.warning then 2#8 else 0#8) := by
  rw [Streamer.statusCode]
  cases t.fault <;> cases t.warning <;> rfl

end Sys2Proof.Machine
end

section
open Sys2Proof Sys2Proof.Machine

/-- Settles O56: the bytes of a record and of its trace, the items, then each kind of unit in R133's order. -/
theorem unitTimerSendsOneUnit : Obligations.UnitTimerSendsOneUnit := by
  refine ⟨⟨fun r hattempts => ?record, ⟨rfl, traceBytes_singleton, traceBytes_concat⟩, fun s => ?items⟩, fun s => ?units⟩
  case record =>
    rw [PartRecord.bytes, r.length_body]
    refine congrArg (fun l => 1#8 :: (be2 _ ++ l)) (congrArg List.flatten ?_)
    simp only [List.cons.injEq, true_and, and_true]
    refine ⟨rfl, rfl, congrArg _ (PartRecord.attemptsByte_of_le hattempts), rfl, ?reached, rfl, ?peak, rfl, rfl,
      be4_eq _, ?pressOpened, be4_eq _, rfl⟩
    case reached => cases r.reached <;> rfl
    case peak => cases r.peak <;> rfl
    case pressOpened => rw [be4_eq]; cases r.timePressOpened <;> rfl
  case items =>
    refine ⟨fun z => ⟨fun _ => State.itemValue_of_reading, State.itemValue_of_no_reading, s.itemValue_duty z⟩,
      fun j => ⟨fun h => ?noneCuring, fun i law hi least => ?oldest⟩, s.itemValue_pan, rfl, rfl, rfl⟩
    case noneCuring =>
      rw [s.itemValue_progress, State.progressItem_of_none (State.oldestCuring_eq_none h)]
      rfl
    case oldest =>
      rw [s.itemValue_progress, State.progressItem_of_some (State.oldestCuring_eq_some law hi least)]
      exact ⟨fun hcharged => by rw [if_pos hcharged]; rfl, fun hnot => by rw [if_neg hnot]; rfl⟩
  case units =>
    intro sends kept zeros
    refine ⟨exec_unitTimer_of_not_ready, fun hready => ⟨fun hstatus => ?status, fun hdata =>
      ⟨fun howed => ?owed, fun howed hst => ⟨fun hring => ?idle, fun r rest hring => ?start⟩,
        fun howed st r rest hst hring => ⟨fun hin => ?within, fun hpos hend => ?ending⟩⟩⟩⟩
    case status =>
      refine ⟨s.statusItems.1, s.statusItems.2, s.streamer.readback.drop 2, fun a b rest h => ?_, fun a h => ?_,
        fun h => ?_, ?_⟩
      · simp [State.statusItems, h]
      · simp [State.statusItems, h]
      · simp [State.statusItems, h]
      · rw [exec_unitTimer_of_ready hready, State.sendNextUnit_status (s := s.atExpiry) hstatus,
          ← Streamer.statusCode_byte]
        rfl
    case owed =>
      change exec _ _ = _
      rw [exec_unitTimer_of_ready hready, State.sendNextUnit_owed (s := s.atExpiry) hdata howed]
      rfl
    case idle =>
      change exec _ _ = _
      rw [exec_unitTimer_of_ready hready, State.sendNextUnit_idle (s := s.atExpiry) hdata howed hst hring, ← hst]
      rfl
    case start =>
      change exec _ _ = _
      rw [exec_unitTimer_of_ready hready,
        State.sendNextUnit_start (s := s.atExpiry) hdata howed hst (by simp [State.atExpiry, hring]),
        State.sendStream_eq (streamBytes_start (s := s.atExpiry.setStream (some ⟨0, 0⟩)) rfl hring (Nat.le_refl 7))]
      rfl
    case within =>
      exact exec_unitTimer_of_stream (u := s) hready hdata howed hst (streamBytes_take (s := s.atExpiry) hst hring hin)
    case ending =>
      exact ⟨fun hne next more hmore => exec_unitTimer_of_record_more hready hdata howed hst hring hpos hend hne hmore,
        fun hlast => exec_unitTimer_of_record_last hready hdata howed hst hring hpos hend hlast⟩
end

section
/-! The notices of a port (R163 to R165): what a raise writes, and POLL as a command of its own row. -/

namespace Sys2Proof.Machine

/-- A raise writes the notice set and the attention line of its port, and nothing else (R164). -/
theorem State.raise_eq (s : State) (p : PortId) (k : NoticeKind) :
    s.raise p k = { s with ports := s.ports.set p { s.port p with
      notices := insertNotice k (s.port p).notices, attention := true } } := rfl

theorem State.port_raise_self (s : State) (p : PortId) (k : NoticeKind) :
    (s.raise p k).port p = (s.port p).raise k := State.port_setPort_self s p _

/-- A list of single fields: its length, then one field for each entry (R161). -/
theorem listFields_singleton {α : Type} (l : List α) (f : α → ReplyField) :
    listFields l (fun a => [f a]) = .byte l.length :: l.map f := by
  rw [listFields, List.map_eq_flatMap]

/-- POLL reports the port's notice set as it stands, empties it and releases the attention line (R165). -/
theorem exec_poll (p : PortId) (s : State) :
    exec (.poll p) s = .next
      { s with
        ports := s.ports.set p { s.port p with notices := [], attention := false }
        reply := some (p, ⟨.done, .byte (s.port p).notices.length :: (s.port p).notices.map fun k => .byte k.code⟩) } := by
  change respond p (takePoll p s) = _
  rw [takePoll, listFields_singleton, respond_eq]
  rfl

end Sys2Proof.Machine
end

section
open Sys2Proof Sys2Proof.Machine

/-- Settles O22: a raise inserts its kind into the set of its port; the set that POLL reports is the port's own, which the
law of the notices keeps in the order of the notice table. -/
theorem noticesAreRaisedAndPolled : Obligations.NoticesAreRaisedAndPolled := by
  refine ⟨fun p k s => ⟨fun x => ?joins, ?attention, _, s.raise_eq p k⟩,
    fun p s law => ⟨(s.port p).notices, fun _ => Iff.rfl, law.once, exec_poll p s⟩⟩
  case joins =>
    rw [s.port_raise_self]
    exact mem_insertNotice k x (s.port p).notices
  case attention =>
    rw [s.port_raise_self, Port.raise_attention]
end

section
/-! What a step can do, said once: every step is a chain of events, each a small change of the state under the condition
under which the part makes it. A law that every event keeps is then kept by every step. -/

namespace Sys2Proof.Machine

/-! ### The states in the middle of an operation -/

/-- An accepted CLOSED before its release condition is evaluated (R17, steps 1 to 6). -/
def State.closedOn (s : State) (i : Fin 8) : State :=
  let s₂ := (s.setRow i ((s.row i).close s.clock (s.rowRecipe i).maxCure)).releaseReserved (s.row i).recipe
    ((s.row i).cavities.count fun c => c.charge == .awaitCharge)
  { s₂ with
    extraction := { s₂.extraction with
      uncleared := s₂.extraction.uncleared + (s.row i).cavities.count Cavity.partBearing }
    rows := s₂.rows.map Row.clearPermit }

/-- The grant ends without an outcome: the cavity is IN_TOOL again, and noted where there is a note (R107). -/
def State.ungranted (s : State) (g : Grant) (inputs : Interlocks) (kind : Option NoteKind) (offset : Nat) : State :=
  { s with extraction := { s.extraction with grant := none, inputs := inputs } }.modifyCavity g.row g.cavity fun c =>
    { c with tool := .inTool }.giveNote? kind offset

/-- A cavity leaves the tool: the uncleared count falls (R102). -/
def State.oneCleared (s : State) : State :=
  { s with extraction := { s.extraction with uncleared := s.extraction.uncleared - 1 } }

/-- The state with the outstanding grant replaced. -/
def State.setGrant (s : State) (grant : Option Grant) : State :=
  { s with extraction := { s.extraction with grant := grant } }

/-- A cavity receives its tool outcome, its record becomes due, and a REMOVED one leaves the tool (R110, R113). -/
def State.withOutcome (s : State) (grant : Option Grant) (i j : Fin 8) (o : ToolOutcome) : State :=
  let t := ((s.setGrant grant).modifyCavity i j fun c => { c with tool := o.status }).recordDue i j o
  if o = .removed then t.oneCleared else t

/-- The oldest record has left the ring, and the head of the record queue has taken its place (R129). -/
def State.ringTurned (s : State) : State :=
  match s.recordQueue with
  | [] => { s with ring := s.ring.tail }
  | (i, j) :: rest => { s with ring := s.ring.tail, recordQueue := rest }.recordQueued i j

/-- The permits of CHARGED rows are cleared, and the platen enters a state (R31, R37). -/
def State.platenMoved (s : State) (p : PlatenState) (recipe : Option (Fin 8)) : State :=
  { s with
    rows := if s.regulator.platen = .ready then s.rows.map Row.clearPermit else s.rows
    regulator := { s.regulator with platen := p, platenRecipe := recipe, dwell := 0 } }

/-! ### The events -/

/-- The events of the part: what can happen to the state, with the condition under which it does. -/
inductive State.Event (s : State) : State → Prop
  /-- What no law reads. -/
  | quiet (pending : List Instr) (clock : Clock) (pins : Pins) (weigh : WeighUnit) (reply : Option (PortId × Reply))
      (raceCount : Nat) :
      Event s { s with pending := pending, clock := clock, pins := pins, weigh := weigh, reply := reply,
                       raceCount := raceCount }
  /-- The receiver and the waiting frame of a port, and its saturating counts (R158, R159). -/
  | link (p : PortId) (q : Port) (notices : q.notices = (s.port p).notices) (line : q.attention = (s.port p).attention)
      (errors : q.frameErrors = (s.port p).frameErrors ∨ q.frameErrors ≤ Config.countMax)
      (overruns : q.overruns = (s.port p).overruns ∨ q.overruns ≤ Config.countMax) : Event s (s.setPort p q)
  | polled (p : PortId) : Event s (s.setPort p { s.port p with notices := [], attention := false })
  | raised (p : PortId) (k : NoticeKind) : Event s (s.raise p k)
  /-- The streamer, but for its readback queue; the unit count rises below ND only (R133). -/
  | streamer (t : Streamer) (queue : t.readback = s.streamer.readback)
      (count : t.unitCount ≤ s.streamer.unitCount ∨ t.unitCount ≤ s.settings.nd) : Event s { s with streamer := t }
  | statusSent : Event s s.sendStatus
  | itemQueued (item : Nat) (isItem : isItem item = true) (room : s.streamer.readback.length < Config.readbackSlots) :
      Event s { s with streamer := { s.streamer with readback := s.streamer.readback ++ [item] } }
  /-- The zone records, but for their integrals and shortfall totals, with dwell count and idle timer. -/
  | zones (zones : Vec Zone 12) (dwell : Nat) (idleTimer : Option Clock)
      (integral : ∀ z, (zones.get z).integral = (s.regulator.zones.get z).integral)
      (total : ∀ z, (zones.get z).totalShortfall = (s.regulator.zones.get z).totalShortfall) :
      Event s { s with regulator := { s.regulator with zones := zones, dwell := dwell, idleTimer := idleTimer } }
  | sampleError : Event s s.sampleError
  | duties : Event s s.computeDuties
  | frameClosed : Event s s.closeFrame
  | frameOpened : Event s s.openFrame
  | slotStarted (k : Nat) : Event s (s.startSlot k)
  | frameTimers (frameTimer slotTimer : Nat) :
      Event s { s with firing := { s.firing with frameTimer := frameTimer, slotTimer := slotTimer } }
  | platenReady (warming : s.regulator.platen = .warming) :
      Event s { s with regulator := { s.regulator with platen := .ready } }
  | platenMoved (p : PlatenState) (recipe : Option (Fin 8)) (on : p ≠ .off)
      (valid : recipe = s.regulator.platenRecipe ∧ s.regulator.platen ≠ .off ∨
        ∃ k, recipe = some k ∧ (s.store.slots.get k).validity = .valid) :
      Event s (s.platenMoved p recipe)
  | platenOff : Event s s.enterOff
  | settingsWritten (es : List (Nat × List Byte)) (pass : EntriesPass es) : Event s (s.withApplied es)
  | runSet (k : Fin 8) (mode : RunMode) (quantity : Nat)
      (room : mode = .counted → (s.runs.get k).reserved ≤ quantity) :
      Event s (s.modifyRun k fun e => e.setMode mode quantity)
  | locked (lock : LockState) : Event s { s with store := { s.store with lock := lock } }
  | writeStarted (k : Fin 8) (r : Recipe) (unused : ¬∃ m, (s.row m).state ≠ .free ∧ (s.row m).recipe = some k)
      (passes : r.firstFailure = none) :
      Event s { s with store := { s.store with write := some { slot := k, accepted := s.clock, recipe := r } } }
  | writeCompleted (w : WriteInFlight) (held : s.store.write = some w) :
      Event s { s with store := { s.store with
        slots := s.store.slots.set w.slot { image := SlotImage.programmed w.recipe, validity := .valid }
        write := none } }
  | rowTaken (i k : Fin 8) (shot : Nat) (free : (s.row i).state = .free) (range : ShotNumber shot)
      (fresh : ¬∃ m, (s.row m).state ≠ .free ∧ (s.row m).shot = some shot)
      (valid : (s.store.slots.get k).validity = .valid) (settled : s.store.write.map WriteInFlight.slot ≠ some k)
      (running : ¬∃ m, (s.row m).state ≠ .free ∧ (s.row m).recipe ≠ some k) : Event s (s.rowTaken i k shot)
  | aborted (i : Fin 8) (unmoulded : (s.row i).state = .open_ ∨ (s.row i).state = .charged) :
      Event s ((s.releaseReserved (s.row i).recipe (s.row i).reservedCavities).clearRow i)
  | freed (i : Fin 8) (freeable : (s.row i).freeable = true) : Event s (s.clearRow i)
  | permitted (i : Fin 8) (charged : (s.row i).state = .charged) : Event s (s.setRow i { s.row i with permit := true })
  | closed (i : Fin 8) (unmoulded : (s.row i).state = .open_ ∨ (s.row i).state = .charged)
      (alone : ∀ m, m ≠ i → ¬(s.row m).Pressed) : Event s (s.closedOn i)
  | released (i : Fin 8) (curing : (s.row i).state = .curing) (released : (s.row i).released = true) :
      Event s (s.setRow i { s.row i with state := .releasable, rowTimer := none })
  | timedOut (i : Fin 8) (curing : (s.row i).state = .curing) :
      Event s (s.setRow i { (s.row i).mapCavities Cavity.timeOut with state := .releasable, rowTimer := none })
  | cureStepped (i : Fin 8) (running : (s.row i).stepTimer ≠ none) :
      Event s (s.setRow i ((s.row i).cureStep (s.rowRecipe i) s.usableReading))
  | pressOpened (i : Fin 8) (pressed : (s.row i).Pressed) :
      Event s (s.setRow i ((s.row i).openPress s.clock (s.rowRecipe i).demouldLimit))
  | attempted (i j : Fin 8) (n : Nat) (live : (s.row i).state ≠ .free) :
      Event s (s.modifyCavity i j fun c => { c with attempts := n })
  | noted (i j : Fin 8) (kind : NoteKind) (offset : Nat) (live : (s.row i).state ≠ .free) :
      Event s (s.modifyCavity i j (Cavity.giveNote kind offset))
  | admitted (i j : Fin 8) (res : WeighResult) (target : Nat) (override : Bool) (opening : (s.row i).state = .open_)
      (awaits : (s.cavity i j).charge = .awaitCharge) :
      Event s (s.setRow i ((s.row i).modifyCavity j (Cavity.takeCharge res s.clock target override)).tryCharged)
  | granted (i j : Fin 8) (shot : Nat) (opened : (s.row i).state = .opened) (named : (s.row i).shot = some shot)
      (inTool : (s.cavity i j).tool = .inTool) (none : s.extraction.grant = none) (permits : s.permitsDemould = true) :
      Event s { s.modifyCavity i j (fun c => { c with tool := .granted }) with
        extraction := { s.extraction with grant := some { row := i, shot := shot, cavity := j } } }
  | ungranted (g : Grant) (inputs : Interlocks) (kind : Option NoteKind) (offset : Nat)
      (held : s.extraction.grant = some g) : Event s (s.ungranted g inputs kind offset)
  | inputs (inputs : Interlocks) (none : s.extraction.grant = none ∨
      permitted s.settings.interlockPattern inputs.combination = true) :
      Event s { s with extraction := { s.extraction with inputs := inputs } }
  | outcome (i j : Fin 8) (o : ToolOutcome) (grant : Option Grant) (opened : (s.row i).state = .opened)
      (held : (s.cavity i j).tool = .inTool ∧ grant = s.extraction.grant ∨ (s.cavity i j).tool = .granted ∧ grant = none)
      (reported : o ≠ .cleared) : Event s (s.withOutcome grant i j o)
  | cleared (i j : Fin 8) (held : (s.cavity i j).tool = .stuck ∨ (s.cavity i j).tool = .abandoned) :
      Event s (s.modifyCavity i j fun c => { c with tool := .cleared }).oneCleared
  | windowClosed (i : Fin 8) (opened : (s.row i).state = .opened) : Event s (s.setRow i { s.row i with rowTimer := none })
  | ringTurned : Event s s.ringTurned
  | rowsTicked : Event s { s with rows := s.rows.map Row.tick }
  | cellCleared (room : s.pendingCavities ≤ 64 - s.ring.length) : Event s s.clearCell
  | reset (strap : Bool) : Event s (s.afterReset strap)

/-- A chain of events. -/
abbrev State.Reaches : State → State → Prop := Relation.ReflTransGen State.Event

theorem State.Event.reaches {s t : State} (h : s.Event t) : s.Reaches t := .single h

/-- A property that every event keeps is kept along a chain of them. -/
theorem State.Reaches.keeps {P : State → Prop} (hP : ∀ s t : State, P s → s.Event t → P t) {s t : State}
    (h : s.Reaches t) (hs : P s) : P t := by
  induction h with
  | refl => exact hs
  | tail _ e ih => exact hP _ _ ih e

end Sys2Proof.Machine
end

section
/-! Every step is a chain of events: the shared operations, the requests, the frames, and the other commands. -/

namespace Sys2Proof.Machine

/-! ### The shared operations -/

theorem State.Reaches.then {s t u : State} (h : s.Reaches t) (e : t.Event u) : s.Reaches u := .tail h e

theorem State.Reaches.setWeigh {s t : State} (h : s.Reaches t) (w : WeighUnit) : s.Reaches { t with weigh := w } :=
  h.then (.quiet t.pending t.clock t.pins w t.reply t.raceCount)

theorem State.Reaches.setPins {s t : State} (h : s.Reaches t) (p : Pins) : s.Reaches { t with pins := p } :=
  h.then (.quiet t.pending t.clock p t.weigh t.reply t.raceCount)

theorem State.Reaches.withReply {s t : State} (h : s.Reaches t) (p : PortId) (r : Reply) :
    s.Reaches (t.withReply p r) := h.then (.quiet t.pending t.clock t.pins t.weigh (some (p, r)) t.raceCount)

theorem State.Reaches.setIdle {s t : State} (h : s.Reaches t) (timer : Option Clock) :
    s.Reaches { t with regulator := { t.regulator with idleTimer := timer } } :=
  h.then (.zones t.regulator.zones t.regulator.dwell timer (fun _ => rfl) fun _ => rfl)

theorem State.Reaches.raise {s t : State} (h : s.Reaches t) (p : PortId) (k : NoticeKind) :
    s.Reaches (t.raise p k) := h.then (.raised p k)

theorem State.Reaches.raiseIf {s t : State} (h : s.Reaches t) (c : Prop) [Decidable c] (p : PortId) (k : NoticeKind) :
    s.Reaches (if c then t.raise p k else t) := by
  split
  · exact h.raise p k
  · exact h

theorem State.Reaches.setFault {s t : State} (h : s.Reaches t) : s.Reaches t.setFault :=
  h.then (.streamer _ rfl (.inl le_rfl))

theorem State.Reaches.setWarning {s t : State} (h : s.Reaches t) : s.Reaches t.setWarning :=
  h.then (.streamer _ rfl (.inl le_rfl))

theorem State.Reaches.cellFault {s t : State} (h : s.Reaches t) : s.Reaches t.cellFault :=
  ((h.raise .press .cellFault).raise .records .cellFault).setFault

theorem State.Reaches.tableEmptied {s t : State} (h : s.Reaches t) : s.Reaches t.tableEmptied := by
  unfold State.tableEmptied
  split
  · exact h.setIdle _
  · exact h

theorem State.Reaches.tryFree {s t : State} (h : s.Reaches t) (i : Fin 8) : s.Reaches (t.tryFree i) := by
  unfold State.tryFree
  split
  · next hf => exact (h.then (.freed i hf)).tableEmptied
  · exact h

theorem State.lowerUncleared_eq_oneCleared (s : State) :
    s.lowerUncleared = if s.extraction.uncleared = 1 then s.oneCleared.raise .press .toolClear else s.oneCleared := rfl

theorem State.enterPlaten_eq_platenMoved (s : State) (p : PlatenState) (recipe : Option (Fin 8)) :
    s.enterPlaten p recipe =
      if s.regulator.platen = .ready then (s.platenMoved p recipe).raise .press .platenNotReady
      else s.platenMoved p recipe := by
  unfold State.enterPlaten State.leaveReady State.platenMoved
  split <;> rfl

theorem State.Reaches.enterPlaten {s t : State} (h : s.Reaches t) {p : PlatenState} {recipe : Option (Fin 8)}
    (on : p ≠ .off) (valid : recipe = t.regulator.platenRecipe ∧ t.regulator.platen ≠ .off ∨
      ∃ k, recipe = some k ∧ (t.store.slots.get k).validity = .valid) : s.Reaches (t.enterPlaten p recipe) := by
  rw [State.enterPlaten_eq_platenMoved]
  exact (h.then (.platenMoved p recipe on valid)).raiseIf _ _ _

theorem State.Reaches.warmFor {s t : State} (h : s.Reaches t) {k : Fin 8}
    (valid : (t.store.slots.get k).validity = .valid) : s.Reaches (t.warmFor k) := by
  unfold State.warmFor
  split
  · exact h.enterPlaten (by decide) (.inr ⟨k, rfl, valid⟩)
  · exact h

theorem State.Reaches.idleExpire {s t : State} (h : s.Reaches t) : s.Reaches t.idleExpire := by
  unfold State.idleExpire
  split
  · next hp => exact (h.setIdle none).enterPlaten (by decide) (.inl ⟨rfl, by rcases hp with hp | hp <;> simp [hp]⟩)
  · exact h.setIdle none

theorem State.Reaches.tryRelease {s t : State} (h : s.Reaches t) (i : Fin 8) : s.Reaches (t.tryRelease i) := by
  unfold State.tryRelease
  split
  · next hr => exact (h.then (.released i hr.1 hr.2)).raise .press .releasable
  · exact h

theorem State.Reaches.endRun {s t : State} (h : s.Reaches t) (e : RunEnd) : s.Reaches (t.endRun e) := by
  unfold State.endRun
  split
  · exact h
  · split
    · exact (h.setWeigh _).raise _ _
    · exact (h.setWeigh _).raise _ _

/-! ### Requests that name a shot -/

theorem State.findShot_eq_some {s : State} {shot : Nat} {i : Fin 8} (h : s.findShot shot = some i) :
    (s.row i).state ≠ .free ∧ (s.row i).shot = some shot := by
  simpa [State.row] using Vec.find_eq_some h

theorem State.onShot_reaches {s : State} {shot : Nat} {k : Fin 8 → State × Reply}
    (hk : ∀ i, (s.row i).state ≠ .free → (s.row i).shot = some shot → s.Reaches (k i).1) :
    s.Reaches (s.onShot shot k).1 := by
  unfold State.onShot
  split
  · split
    · next i hf => exact hk i (State.findShot_eq_some hf).1 (State.findShot_eq_some hf).2
    · exact .refl
  · exact .refl

theorem State.onCavity_reaches {s : State} {shot cavity : Nat} {k : Fin 8 → Fin 8 → State × Reply}
    (hk : ∀ i j, (s.row i).state ≠ .free → (s.row i).shot = some shot → s.Reaches (k i j).1) :
    s.Reaches (s.onCavity shot cavity k).1 := by
  unfold State.onCavity
  split
  · exact State.onShot_reaches fun i => hk i _
  · exact .refl

/-! ### The cycle table -/

theorem takeOpenCycle_reaches (shot recipe : Nat) (s : State) : s.Reaches (takeOpenCycle shot recipe s).1 := by
  by_cases hr : ShotNumber shot ∧ recipe < 8
  · obtain ⟨hshot, hlt⟩ := hr
    rw [show recipe = (⟨recipe, hlt⟩ : Fin 8).val from rfl, takeOpenCycle_eq hshot]
    generalize (⟨recipe, hlt⟩ : Fin 8) = k
    cases hf : s.rows.find fun r => !r.live with
    | none =>
      simp only [Option.elim_none]
      split_ifs <;> exact .refl
    | some i =>
      simp only [Option.elim_some]
      split_ifs with fresh settled valid running
      any_goals exact .refl
      rw [State.openRow_eq]
      have hfree : (s.row i).state = .free := by simpa [State.row] using Vec.find_eq_some hf
      have hvalid := not_not.1 valid
      exact ((State.Event.reaches (.rowTaken i k shot hfree hshot fresh hvalid settled running)).warmFor
        hvalid).raise .charge .cycleOpened |>.setIdle none
  · have : takeOpenCycle shot recipe s = (s, .plain .malformed) := by
      unfold takeOpenCycle
      split
      · next hs hk =>
        refine absurd ⟨(shotOk_iff shot).1 hs, ?_⟩ hr
        by_contra hlt
        rw [index8_eq_none (by omega)] at hk
        cases hk
      · rfl
    rw [this]

theorem takeAbortCycle_reaches (shot : Nat) (s : State) : s.Reaches (takeAbortCycle shot s).1 :=
  State.onShot_reaches fun i _ _ => by
    split
    · next h => exact (State.Event.reaches (.aborted i h)).tableEmptied
    · exact .refl

theorem State.closeDenied_eq_none {s : State} {i : Fin 8} (h : s.closeDenied i = none) :
    (s.row i).state = .charged := by
  by_contra hc
  rw [State.closeDenied, if_pos hc] at h
  cases h

theorem takeClosePermit_reaches (shot : Nat) (s : State) : s.Reaches (takeClosePermit shot s).1 :=
  State.onShot_reaches fun i _ _ => by
    split
    · exact .refl
    · next h => exact .single (.permitted i (State.closeDenied_eq_none h))

theorem State.closeRow_reaches {s : State} {i : Fin 8} (unmoulded : (s.row i).state = .open_ ∨ (s.row i).state = .charged)
    (alone : ∀ m, m ≠ i → ¬(s.row m).Pressed) : s.Reaches (s.closeRow i) :=
  (State.Event.reaches (.closed i unmoulded alone)).tryRelease i

theorem takeClosed_reaches (shot : Nat) (s : State) : s.Reaches (takeClosed shot s).1 := by
  unfold takeClosed
  split
  · split
    · exact .cellFault .refl
    · next i _ =>
      split_ifs with hs ho
      · exact .cellFault .refl
      · exact .cellFault .refl
      · refine State.closeRow_reaches (by tauto) fun m hm => ?_
        rw [Bool.not_eq_true, State.anyOther_eq_false_iff] at ho
        rw [← Row.inPress_iff, ho m hm]
        exact Bool.false_ne_true
  · exact .refl

theorem takeOpened_reaches (shot : Nat) (s : State) : s.Reaches (takeOpened shot s).1 := by
  unfold takeOpened
  split
  · split
    · exact .cellFault .refl
    · next i _ =>
      split
      · next hp =>
        exact ((State.Event.reaches (.pressOpened i ((Row.inPress_iff _).1 hp))).raise .extract .pressOpened).tryFree i
      · exact .cellFault .refl
  · exact .refl

theorem takeReleaseQuery_reaches (shot : Nat) (s : State) : s.Reaches (takeReleaseQuery shot s).1 :=
  State.onShot_reaches fun _ _ _ => .refl

theorem takeCycleQuery_reaches (shot : Nat) (s : State) : s.Reaches (takeCycleQuery shot s).1 := by
  unfold takeCycleQuery
  split
  · exact .refl
  · exact State.onShot_reaches fun _ _ _ => .refl

theorem takeCellClear_reaches (s : State) : s.Reaches (takeCellClear s).1 := by
  unfold takeCellClear
  split
  · exact .refl
  · next h => exact .single (.cellCleared (Nat.le_of_not_lt h))

/-! ### The platen -/

theorem takeHeatOn_reaches (recipe : Nat) (s : State) : s.Reaches (takeHeatOn recipe s).1 := by
  unfold takeHeatOn
  split
  · exact .refl
  · split_ifs with _ _ hv
    any_goals exact .refl
    rw [State.heatTo_eq_warmFor]
    exact (State.Reaches.warmFor .refl (not_not.1 hv)).tableEmptied

theorem takeHeatOff_reaches (s : State) : s.Reaches (takeHeatOff s).1 := by
  unfold takeHeatOff
  split_ifs
  any_goals exact .refl
  exact .single .platenOff

/-! ### The weigh unit -/

theorem takeTare_reaches (s : State) : s.Reaches (takeTare s).1 := by
  unfold takeTare
  split
  · exact .refl
  · exact .setWeigh .refl _

theorem takeWeigh_reaches (shot cavity : Nat) (s : State) : s.Reaches (takeWeigh shot cavity s).1 :=
  State.onCavity_reaches fun i j live _ => by
    split_ifs
    any_goals exact .refl
    exact (State.Event.reaches (.attempted i j ((s.cavity i j).attempts + 1) live)).setWeigh _

theorem takeWeighCancel_reaches (s : State) : s.Reaches (takeWeighCancel s).1 := by
  unfold takeWeighCancel
  split
  · exact .endRun .refl _
  · exact .refl

theorem State.admitTo_reaches {s : State} {i j : Fin 8} (opening : (s.row i).state = .open_)
    (awaits : (s.cavity i j).charge = .awaitCharge) (r : WeighResult) (override : Bool) :
    s.Reaches (s.admitTo i j r override).1 :=
  (State.Event.reaches (.admitted i j r _ override opening awaits)).setWeigh _

theorem State.onAdmission_reaches {s : State} {shot cavity : Nat} {k : Fin 8 → Fin 8 → WeighResult → State × Reply}
    (hk : ∀ i j r, (s.row i).state = .open_ → (s.cavity i j).charge = .awaitCharge → s.Reaches (k i j r).1) :
    s.Reaches (s.onAdmission shot cavity k).1 :=
  State.onCavity_reaches fun i j _ _ => by
    split
    · exact .refl
    · split_ifs with _ _ hs
      any_goals exact .refl
      exact hk i j _ (by tauto) (by tauto)

theorem takeAdmit_reaches (shot cavity : Nat) (s : State) : s.Reaches (takeAdmit shot cavity s).1 :=
  State.onAdmission_reaches fun i j r opening awaits => by
    split
    · exact State.admitTo_reaches opening awaits r false
    · exact .refl

theorem takeAdmitOverride_reaches (shot cavity : Nat) (s : State) : s.Reaches (takeAdmitOverride shot cavity s).1 :=
  State.onAdmission_reaches fun i j r opening awaits => by
    split_ifs
    · exact State.admitTo_reaches opening awaits r false
    · exact State.admitTo_reaches opening awaits r true
    · exact .refl
    · exact .refl

/-! ### Extraction -/

theorem takeExtractGrant_reaches (shot cavity : Nat) (s : State) : s.Reaches (takeExtractGrant shot cavity s).1 :=
  State.onCavity_reaches fun i j _ named => by
    split_ifs with ht hg hp
    any_goals exact .refl
    exact .single (.granted i j shot (by tauto) named (by tauto) (by simpa using hg) (by simpa using hp))
theorem Row.windowExpired_opened {r : Row} (h : r.windowExpired = true) : r.state = .opened := by
  simp only [Row.windowExpired, Bool.and_eq_true, beq_iff_eq] at h
  exact h.1

theorem State.abandon_reaches {s : State} {i j : Fin 8} (opened : (s.row i).state = .opened)
    (inTool : (s.cavity i j).tool = .inTool) : s.Reaches (s.abandon i j) :=
  .single (.outcome i j .abandoned s.extraction.grant opened (.inl ⟨inTool, rfl⟩) (by decide))

/-- The rows after a due record: the cavity has its verdict and is RECORDED or QUEUED (R121, R126). -/
theorem State.recordDue_rows (s : State) (i j : Fin 8) (o : ToolOutcome) :
    (s.recordDue i j o).rows =
      (s.modifyCavity i j fun c => c.placed (s.freeze i j o) (s.ring.length < 64)).rows := by
  cases hk : (s.row i).recipe with
  | some k => rw [State.recordDue_eq hk]
  | none =>
    rw [State.recordDue, hk, State.accountRun, State.placeRecord_eq, State.modifyCavity_modifyCavity]
    rfl

theorem State.recordDue_row_state (s : State) (i j m : Fin 8) (o : ToolOutcome) :
    ((s.recordDue i j o).row m).state = (s.row m).state := by
  rw [State.row_congr (s.recordDue_rows i j o)]
  by_cases h : i = m
  · subst h
    simp
  · rw [State.row_modifyCavity_ne _ _ _ h]

theorem State.abandonIfInTool_reaches {s t : State} {i j : Fin 8} (h : s.Reaches t)
    (opened : (t.row i).state = .opened) :
    s.Reaches (t.abandonIfInTool i j) ∧ ((t.abandonIfInTool i j).row i).state = .opened := by
  unfold State.abandonIfInTool
  split
  · next ht =>
    refine ⟨h.trans (State.abandon_reaches opened ht), ?_⟩
    rw [State.abandon, State.recordDue_row_state, State.row_modifyCavity_self, Row.modifyCavity_state, opened]
  · exact ⟨h, opened⟩

theorem State.foldl_abandonIfInTool_reaches {s t : State} {i : Fin 8} (h : s.Reaches t)
    (opened : (t.row i).state = .opened) (js : List (Fin 8)) :
    s.Reaches (js.foldl (State.abandonIfInTool i) t) := by
  induction js generalizing t with
  | nil => exact h
  | cons j js ih =>
    obtain ⟨h', opened'⟩ := State.abandonIfInTool_reaches (j := j) h opened
    exact ih h' opened'

/-- A revoked grant ends with a note, and where its window has expired its cavity is abandoned (R107, R108). -/
theorem State.revoke_reaches {s : State} {g : Grant} (held : s.extraction.grant = some g) (inputs : Interlocks) :
    s.Reaches ({ s with extraction := { s.extraction with inputs := inputs } }.revoke g) := by
  have hend : s.Reaches ((s.ungranted g inputs (some .interlockBreak) (noteOffset s.clock (s.row g.row))).raise
      .extract .grantRevoked) := (State.Event.reaches (.ungranted g inputs _ _ held)).raise _ _
  unfold State.revoke
  dsimp only
  split
  · next hw =>
    refine State.Reaches.raise (hend.trans (State.abandon_reaches ?_ ?_)) _ _
    · change ((State.modifyCavity _ _ _ _).row g.row).state = _
      rw [State.row_modifyCavity_self]
      exact Row.windowExpired_opened hw
    · change ((State.modifyCavity _ _ _ _).cavity g.row g.cavity).tool = _
      rw [State.cavity_modifyCavity_self]
      simp [Cavity.giveNote?]
  · exact hend

theorem State.Reaches.lowerUncleared_of {s t : State} (h : s.Reaches t.oneCleared) : s.Reaches t.lowerUncleared := by
  rw [State.lowerUncleared_eq_oneCleared]
  exact h.raiseIf _ _ _

theorem State.clearCavity_reaches {s : State} {i j : Fin 8}
    (held : (s.cavity i j).tool = .stuck ∨ (s.cavity i j).tool = .abandoned) : s.Reaches (s.clearCavity i j) :=
  State.Reaches.tryFree (State.Reaches.lowerUncleared_of (.single (.cleared i j held))) i

theorem State.setGrant_self (s : State) : s.setGrant s.extraction.grant = s := rfl

/-- A cavity that is held in the tool receives its outcome, and its row may be freed (R110). -/
theorem State.Reaches.outcome {s t : State} {i j : Fin 8} {o : ToolOutcome} {grant : Option Grant} (h : s.Reaches t)
    (opened : (t.row i).state = .opened)
    (held : (t.cavity i j).tool = .inTool ∧ grant = t.extraction.grant ∨ (t.cavity i j).tool = .granted ∧ grant = none)
    (reported : o ≠ .cleared) :
    let u := ((t.setGrant grant).modifyCavity i j fun c => { c with tool := o.status }).recordDue i j o
    s.Reaches ((if o = .removed then u.lowerUncleared else u).tryFree i) := by
  intro u
  have hout : s.Reaches (if o = .removed then u.oneCleared else u) := h.then (.outcome i j o grant opened held reported)
  refine State.Reaches.tryFree ?_ i
  split_ifs at hout ⊢
  · exact State.Reaches.lowerUncleared_of hout
  · exact hout

/-- A held report is a chain: NO_GRANT is noted where there was no grant, then the cavity has its outcome, and the row may be
freed (R110). -/
theorem State.extract_reaches {s : State} {i j : Fin 8} {o : ToolOutcome} (reported : o ≠ .cleared)
    (opened : (s.row i).state = .opened) (held : (s.cavity i j).tool = .inTool ∨ (s.cavity i j).tool = .granted) :
    s.Reaches (s.extract i j o) := by
  unfold State.extract State.endGrant
  split
  · next ht =>
    have hnote := State.Event.reaches (.noted i j .noGrant (noteOffset s.clock (s.row i)) (s := s) (by simp [opened]))
    have hopened : ((s.modifyCavity i j (Cavity.giveNote .noGrant (noteOffset s.clock (s.row i)))).row i).state =
        .opened := by rw [State.row_modifyCavity_self, Row.modifyCavity_state, opened]
    have hheld : ((s.modifyCavity i j (Cavity.giveNote .noGrant (noteOffset s.clock (s.row i)))).cavity i j).tool =
        .inTool := by rw [State.cavity_modifyCavity_self, Cavity.giveNote_tool, ht]
    have := hnote.outcome hopened (.inl ⟨hheld, rfl⟩) reported
    rwa [State.setGrant_self] at this
  · next ht => exact State.Reaches.outcome .refl opened (.inr ⟨held.resolve_left ht, rfl⟩) reported

theorem takeExtractDone_reaches (shot cavity outcome : Nat) (s : State) :
    s.Reaches (takeExtractDone shot cavity outcome s).1 := by
  unfold takeExtractDone
  split
  · next j o _ _ ho =>
    have hreported : o ≠ .cleared := by
      rintro rfl
      unfold reportedOutcome at ho
      split at ho <;> cases ho
    split
    · exact .cellFault .refl
    · split
      · exact .cellFault .refl
      · next i _ hs =>
        have opened := not_not.1 hs
        unfold State.reportOn
        split
        any_goals exact .refl
        · next ht => exact State.extract_reaches hreported opened (.inl ht)
        · next ht => exact State.extract_reaches hreported opened (.inr ht)
        · next ht =>
          dsimp only
          split
          · exact State.clearCavity_reaches (.inr ht)
          · exact .refl
  · exact .refl

theorem takeClear_reaches (shot cavity : Nat) (s : State) : s.Reaches (takeClear shot cavity s).1 :=
  State.onCavity_reaches fun i j _ _ => by
    split
    · next h => exact State.clearCavity_reaches h
    · exact .refl

/-! ### The records streamer's requests, the settings, the recipe store and the run table -/

theorem takeReadback_reaches (item : Nat) (s : State) : s.Reaches (takeReadback item s).1 := by
  unfold takeReadback
  split_ifs with hi hr
  · exact .single (.itemQueued item hi hr)
  · exact .setWarning .refl
  · exact .refl

theorem takePoll_reaches (p : PortId) (s : State) : s.Reaches (takePoll p s).1 := .single (.polled p)

theorem takeSettingsWrite_reaches (payload : List Byte) (s : State) : s.Reaches (takeSettingsWrite payload s).1 := by
  unfold takeSettingsWrite
  split
  · exact .refl
  · next es hes =>
    have happly : s.Reaches (s.withApplied es) :=
      .single (.settingsWritten es ((settingsEntries_eq_some_iff payload es).1 hes).1)
    dsimp only
    rw [State.writeSettings_eq]
    split
    · exact happly.idleExpire
    · exact happly

theorem takeRecipeWrite_reaches (payload : List Byte) (s : State) : s.Reaches (takeRecipeWrite payload s).1 := by
  unfold takeRecipeWrite
  split
  · exact .refl
  · split
    · exact .refl
    · split_ifs with _ _ _ hused
      any_goals exact .refl
      split
      · exact .refl
      · next hpass =>
        rw [State.slotInUse_iff] at hused
        exact .single (.writeStarted _ _ hused hpass)

theorem takeLockStore_reaches (s : State) : s.Reaches (takeLockStore s).1 := .single (.locked .locked)

theorem takeUnlockStore_reaches (s : State) : s.Reaches (takeUnlockStore s).1 := by
  unfold takeUnlockStore
  split
  · exact .single (.locked .unlocked)
  · exact .refl

theorem takeRecipeRead_reaches (p : PortId) (slot : Nat) (s : State) : s.Reaches (takeRecipeRead p slot s).1 := by
  unfold takeRecipeRead
  split
  · exact .refl
  · split <;> exact .refl

theorem takeRunSet_reaches (recipe mode quantity : Nat) (s : State) :
    s.Reaches (takeRunSet recipe mode quantity s).1 := by
  unfold takeRunSet
  split
  · split
    · exact .refl
    · next h => exact .single (.runSet _ _ _ fun hm => by by_contra hlt; exact h ⟨hm, by omega⟩)
  · exact .refl

theorem takeRunQuery_reaches (recipe : Nat) (s : State) : s.Reaches (takeRunQuery recipe s).1 := by
  unfold takeRunQuery
  split <;> exact .refl

/-! ### Requests and frames -/

theorem takeRequest_reaches (i : Instr) (s : State) : s.Reaches (takeRequest i s).1 := by
  cases i with
  | openCycle shot recipe => exact takeOpenCycle_reaches shot recipe s
  | abortCycle shot => exact takeAbortCycle_reaches shot s
  | closePermit shot => exact takeClosePermit_reaches shot s
  | closed shot => exact takeClosed_reaches shot s
  | opened shot => exact takeOpened_reaches shot s
  | releaseQuery shot => exact takeReleaseQuery_reaches shot s
  | heatOn recipe => exact takeHeatOn_reaches recipe s
  | heatOff => exact takeHeatOff_reaches s
  | tare => exact takeTare_reaches s
  | weigh shot cavity => exact takeWeigh_reaches shot cavity s
  | weighCancel => exact takeWeighCancel_reaches s
  | admitCharge shot cavity => exact takeAdmit_reaches shot cavity s
  | admitOverride shot cavity => exact takeAdmitOverride_reaches shot cavity s
  | extractGrant shot cavity => exact takeExtractGrant_reaches shot cavity s
  | extractDone shot cavity outcome => exact takeExtractDone_reaches shot cavity outcome s
  | clear shot cavity => exact takeClear_reaches shot cavity s
  | settingsWrite payload => exact takeSettingsWrite_reaches payload s
  | recipeWrite payload => exact takeRecipeWrite_reaches payload s
  | lockStore => exact takeLockStore_reaches s
  | unlockStore => exact takeUnlockStore_reaches s
  | runSet recipe mode quantity => exact takeRunSet_reaches recipe mode quantity s
  | cellClear => exact takeCellClear_reaches s
  | poll p => exact takePoll_reaches p s
  | readback _ item => exact takeReadback_reaches item s
  | recipeRead p slot => exact takeRecipeRead_reaches p slot s
  | runQuery _ recipe => exact takeRunQuery_reaches recipe s
  | cycleQuery _ shot => exact takeCycleQuery_reaches shot s
  | _ => exact .refl

theorem State.Reaches.setReceiver {s t : State} (h : s.Reaches t) (p : PortId) (r : Receiver) :
    s.Reaches (t.setReceiver p r) := h.then (.link p _ rfl rfl (.inl rfl) (.inl rfl))

theorem State.Reaches.damageFrame {s t : State} (h : s.Reaches t) (p : PortId) : s.Reaches (t.damageFrame p) :=
  h.then (.link p _ rfl rfl (.inr (Nat.min_le_right _ _)) (.inl rfl))

theorem State.Reaches.huntByte {s t : State} (h : s.Reaches t) (p : PortId) (b : Byte) : s.Reaches (t.huntByte p b) := by
  unfold State.huntByte
  split
  · exact h.setReceiver p _
  · exact h

theorem dispatchFrame_reaches (p : PortId) (kind : Byte) (payload : List Byte) (s : State) :
    s.Reaches (dispatchFrame p kind payload s).1 := by
  unfold dispatchFrame
  split
  · exact takeRequest_reaches _ s
  · exact .refl

theorem State.Reaches.offerFrame {s t : State} (h : s.Reaches t) (p : PortId) (kind : Byte) (payload : List Byte) :
    s.Reaches (t.offerFrame p kind payload) := by
  unfold State.offerFrame
  split
  · exact h.then (.link p _ rfl rfl (.inl rfl) (.inr (Nat.min_le_right _ _)))
  · exact State.Reaches.then (h.trans (dispatchFrame_reaches p kind payload t)) (.link p _ rfl rfl (.inl rfl) (.inl rfl))

theorem State.Reaches.frameProgress {s t : State} (h : s.Reaches t) (p : PortId) (bytes : List Byte) :
    s.Reaches (t.frameProgress p bytes) := by
  unfold State.frameProgress
  split
  · exact h
  · dsimp only
    split_ifs
    · exact h.damageFrame p
    · exact h.setReceiver p _
    · exact (h.setReceiver p _).offerFrame p _ _
    · exact h.damageFrame p

theorem State.Reaches.receiveByte {s t : State} (h : s.Reaches t) (p : PortId) (b : Byte) :
    s.Reaches (t.receiveByte p b) := by
  unfold State.receiveByte
  split
  · exact (h.damageFrame p).huntByte p b
  · split
    · exact h.huntByte p b
    · exact h.frameProgress p _

theorem State.Reaches.receive {s t : State} (h : s.Reaches t) (p : PortId) (bytes : List Byte) :
    s.Reaches (bytes.foldl (State.receiveByte p) t) := by
  induction bytes generalizing t with
  | nil => exact h
  | cons b bytes ih => exact ih (h.receiveByte p b)

/-! ### The unit timer -/

theorem State.Reaches.setStream {s t : State} (h : s.Reaches t) (st : Option Stream) : s.Reaches (t.setStream st) :=
  h.then (.streamer _ rfl (.inl le_rfl))

theorem State.recordSent_eq_ringTurned_of_nil {s : State} (h : s.recordQueue = []) : s.recordSent = s.ringTurned := by
  simp only [State.recordSent, State.ringTurned, h]

theorem State.recordSent_eq_ringTurned_of_cons {s : State} {i j : Fin 8} {rest : List (Fin 8 × Fin 8)}
    (h : s.recordQueue = (i, j) :: rest) : s.recordSent = s.ringTurned.tryFree i := by
  simp only [State.recordSent, State.ringTurned, h]

theorem State.Reaches.recordSent {s t : State} (h : s.Reaches t) : s.Reaches t.recordSent := by
  cases hq : t.recordQueue with
  | nil =>
    rw [State.recordSent_eq_ringTurned_of_nil hq]
    exact h.then .ringTurned
  | cons p rest =>
    rw [State.recordSent_eq_ringTurned_of_cons hq]
    exact (h.then .ringTurned).tryFree _

theorem State.Reaches.endRecord {s t : State} (h : s.Reaches t) (ended : Nat) : s.Reaches (t.endRecord ended) := by
  unfold State.endRecord
  dsimp only
  split
  · exact h.recordSent.setStream _
  · exact h.recordSent.setStream _

@[simp] theorem State.endRecord_unitCount (s : State) (ended : Nat) :
    (s.endRecord ended).streamer.unitCount = s.streamer.unitCount := by
  unfold State.endRecord
  dsimp only
  split <;> simp [State.setStream]

@[simp] theorem State.endRecord_settings (s : State) (ended : Nat) : (s.endRecord ended).settings = s.settings := by
  unfold State.endRecord
  dsimp only
  split <;> simp

/-- The bytes of a stream move the state along a chain of events, and leave unit count and settings as they are. -/
theorem streamBytes_reaches (n : Nat) {s t : State} (h : s.Reaches t) :
    s.Reaches (streamBytes n t).2 ∧ (streamBytes n t).2.streamer.unitCount = t.streamer.unitCount ∧
      (streamBytes n t).2.settings = t.settings := by
  induction n generalizing t with
  | zero => exact ⟨h, rfl, rfl⟩
  | succ n ih =>
    unfold streamBytes
    split
    · next st r _ _ _ =>
      dsimp only
      generalize hu : (if st.position + 1 < r.bytes.length then
        t.setStream (some { st with position := st.position + 1 }) else t.endRecord st.ended) = u
      have hreach : s.Reaches u ∧ u.streamer.unitCount = t.streamer.unitCount ∧ u.settings = t.settings := by
        subst hu
        split
        · exact ⟨h.setStream _, rfl, rfl⟩
        · exact ⟨h.endRecord _, State.endRecord_unitCount t _, State.endRecord_settings t _⟩
      obtain ⟨hr, hc, hs⟩ := hreach
      split
      · obtain ⟨hr', hc', hs'⟩ := ih hr
        exact ⟨hr', hc'.trans hc, hs'.trans hs⟩
      · dsimp only
        split
        · exact ⟨hr.then (.streamer _ rfl (.inl le_rfl)), hc, hs⟩
        · exact ⟨hr, hc, hs⟩
    · exact ⟨h.setStream none, rfl, rfl⟩

theorem State.Reaches.sendUnit {s t : State} (h : s.Reaches t) (kind : Byte) (payload : List Byte)
    (hnd : t.streamer.unitCount < t.settings.nd) : s.Reaches (t.sendUnit kind payload) :=
  h.then (.streamer _ rfl (.inr hnd))

theorem State.Reaches.sendStream {s t : State} (h : s.Reaches t) (kind : Byte)
    (hnd : t.streamer.unitCount < t.settings.nd) : s.Reaches (t.sendStream kind) := by
  obtain ⟨hr, hc, hs⟩ := streamBytes_reaches 7 h
  exact hr.sendUnit kind _ (by rw [hc, hs]; exact hnd)

theorem State.Reaches.sendNextUnit {s t : State} (h : s.Reaches t) : s.Reaches t.sendNextUnit := by
  unfold State.sendNextUnit
  split_ifs with hnd
  · exact h.then .statusSent
  all_goals have hlt := Nat.lt_of_not_le hnd
  · exact (h.then (.streamer { t.streamer with endOwed := false } rfl (.inl le_rfl))).sendUnit _ _ hlt
  · exact h.sendStream _ hlt
  · exact (h.setStream _).sendStream _ hlt
  · exact h.sendUnit _ _ hlt

/-! ### The other commands -/

theorem respond_reaches {p : PortId} {r : State × Reply} {s t : State} (h : s.Reaches r.1) (he : respond p r = .next t) :
    s.Reaches t := by
  obtain rfl : r.1.withReply p r.2 = t := by simpa [respond] using he
  exact h.withReply p r.2

theorem State.ageTest_reaches (s : State) : s.Reaches s.ageTest := by
  have hz := State.Event.reaches (s := s) (.zones (s.regulator.zones.map fun z =>
    if Zone.goesStale s.clock s.settings.sampleStaleMs z then { z with sensor := .stale } else z) s.regulator.dwell
    s.regulator.idleTimer (fun z => by rw [Vec.get_map]; split <;> rfl) fun z => by rw [Vec.get_map]; split <;> rfl)
  unfold State.ageTest
  dsimp only
  split
  · exact hz.setFault
  · exact hz

theorem State.setSetpoints_reaches (s : State) : s.Reaches s.setSetpoints :=
  .single (.zones _ s.regulator.dwell s.regulator.idleTimer (fun z => by rw [Vec.get_mapIdx])
    fun z => by rw [Vec.get_mapIdx])

theorem State.Reaches.setDwell {s t : State} (h : s.Reaches t) (n : Nat) :
    s.Reaches { t with regulator := { t.regulator with dwell := n } } :=
  h.then (.zones t.regulator.zones n t.regulator.idleTimer (fun _ => rfl) fun _ => rfl)

theorem State.Reaches.readyTest {s t : State} (h : s.Reaches t) : s.Reaches t.readyTest := by
  unfold State.readyTest
  split
  · next hp =>
    dsimp only
    split_ifs
    · exact ((h.setDwell (t.regulator.dwell + 1)).then (.platenReady hp)).raise .press .platenReady
    · exact h.setDwell _
    · exact h.setDwell _
  · next hp =>
    split
    · exact h
    · exact (h.enterPlaten (by decide) (.inl ⟨rfl, by simp [hp]⟩)).setWarning
  · exact h
  · exact h

theorem State.frameStart_reaches (s : State) :
    s.Reaches ({ s with firing := { s.firing with frameTimer := Config.framePeriod } }.ageTest.setSetpoints.computeDuties
      |>.closeFrame.openFrame.readyTest) :=
  (((State.Event.reaches (.frameTimers Config.framePeriod s.firing.slotTimer)).trans (State.ageTest_reaches _)).trans
    (State.setSetpoints_reaches _)).tail .duties |>.tail .frameClosed |>.tail .frameOpened |> State.Reaches.readyTest

theorem State.zoneSample_reaches (s : State) (i : Fin 12) (value : BitVec 16) : s.Reaches (s.zoneSample i value) := by
  have hkeep : ∀ z, ((s.regulator.zones.modify i (Zone.sample s.clock value)).get z).integral =
      (s.regulator.zones.get z).integral ∧ ((s.regulator.zones.modify i (Zone.sample s.clock value)).get z).totalShortfall
      = (s.regulator.zones.get z).totalShortfall := fun z => by
    rw [Vec.get_modify]
    split <;> exact ⟨rfl, rfl⟩
  have hz := State.Event.reaches (.zones (s.regulator.zones.modify i (Zone.sample s.clock value)) s.regulator.dwell
    s.regulator.idleTimer (fun z => (hkeep z).1) fun z => (hkeep z).2)
  unfold State.zoneSample
  dsimp only
  split
  · exact hz.setFault
  · exact hz

theorem State.panSample_reaches (s : State) (value : Nat) : s.Reaches (s.panSample value) := by
  have hpan : s.Reaches { s with weigh := { s.weigh with pan := some value } } := .setWeigh .refl _
  unfold State.panSample
  dsimp only
  split
  · exact hpan
  · split_ifs
    · exact (hpan.setWeigh _).endRun _
    · exact (hpan.setWeigh _).endRun _
    · exact hpan.setWeigh _

theorem State.completeWrite_reaches {s : State} {w : WriteInFlight} (held : s.store.write = some w) (strap : Bool) :
    s.Reaches (s.completeWrite w strap) := by
  have hdone := ((State.Reaches.setPins (.refl (a := s)) { s.pins with strap := strap }).then
    (.writeCompleted w held)).raise .records .storeDone
  have hread : s.Reaches (({ s with
      pins := { s.pins with strap := strap }
      store := { s.store with
        slots := s.store.slots.set w.slot { image := SlotImage.programmed w.recipe, validity := .valid }
        write := none } }.raise .records .storeDone).rereadPlaten w.slot) := by
    unfold State.rereadPlaten
    split
    · exact (hdone.enterPlaten (by decide) (.inr ⟨w.slot, rfl, by simp⟩)).setIdle _
    · exact hdone
  unfold State.completeWrite
  dsimp only
  split
  · exact hread.then (.locked .locked)
  · exact hread

theorem execDemouldExpiry_reaches {i : Fin 8} {s t : State} (h : execDemouldExpiry i s = .next t) : s.Reaches t := by
  unfold execDemouldExpiry at h
  split at h
  · next ho =>
    have hfold := State.foldl_abandonIfInTool_reaches (.single (.windowClosed i ho.1)) (i := i)
      (by rw [State.row_setRow_self]; exact ho.1) (List.finRange 8)
    dsimp only at h
    split at h <;> obtain rfl := Host.Outcome.next.inj h
    · exact hfold.raise _ _
    · exact hfold
  · cases h
    exact .refl

theorem execInterlockChange_reaches {input : InterlockInput} {level : Bool} {s t : State}
    (h : execInterlockChange input level s = .next t) : s.Reaches t := by
  unfold execInterlockChange at h
  dsimp only at h
  split at h
  · cases h
    exact .refl
  · split at h
    · next g hg =>
      split at h <;> cases h
      · next hp => exact .single (.inputs _ (.inr hp))
      · exact State.revoke_reaches hg _
    · next hg =>
      cases h
      exact .single (.inputs _ (.inl hg))

theorem execReset_reaches {strap : Bool} {s t : State} (h : execReset strap s = .next t) : s.Reaches t := by
  have hr := State.Event.reaches (.reset (s := s) strap)
  unfold execReset at h
  dsimp only at h
  split at h <;> cases h
  · exact (hr.raise _ _).setFault
  · exact hr

theorem State.tick_reaches (s : State) : s.Reaches s.tick :=
  ((State.Event.reaches (.quiet s.pending (s.clock + 1) s.pins.tick s.weigh s.reply s.raceCount)).then .rowsTicked).then
    (.frameTimers (s.firing.frameTimer - 1) (s.firing.slotTimer - 1)) |>.then
    (.streamer { s.streamer with unitTimer := s.streamer.unitTimer - 1 } rfl (.inl le_rfl))

/-- A command with a kind of the catalogue is the request, taken by its block, with its reply (log 6). -/
theorem exec_of_kindByte {c : Instr} (h : c.kindByte ≠ none) (s : State) :
    ∃ p, exec c s = respond p (takeRequest c s) := by
  cases c
  all_goals first
    | exact ⟨_, rfl⟩
    | exact absurd rfl h

/-- A command that is no request is a chain of events. -/
theorem exec_reaches_of_no_kindByte {c : Instr} (hk : c.kindByte = none) {s t : State} (h : exec c s = .next t) :
    s.Reaches t := by
  cases c with
  | frameReceived port bytes => cases h; exact .receive .refl port bytes
  | frameGapTimeout port =>
    change execFrameGapTimeout port s = _ at h
    unfold execFrameGapTimeout at h
    split at h <;> cases h
    · exact .damageFrame .refl port
    · exact .refl
  | replySent port => cases h; exact .single (.link port _ rfl rfl (.inl rfl) (.inl rfl))
  | sampleArrival channel value =>
    change execSampleArrival channel value s = _ at h
    unfold execSampleArrival at h
    split_ifs at h <;> cases h
    · exact s.zoneSample_reaches _ value
    · exact s.panSample_reaches _
    · exact .single .sampleError
  | settleRunTimeout => cases h; exact .endRun .refl _
  | frameStart => cases h; exact s.frameStart_reaches
  | slotStart =>
    change execSlotStart s = _ at h
    unfold execSlotStart at h
    split at h
    · split at h <;> cases h
      · exact .single (.slotStarted _)
      · exact .refl
    · cases h
      exact .refl
  | mainsHoldChange level => cases h; exact .setPins .refl _
  | readyLineChange level => cases h; exact .setPins .refl _
  | idleExpiry =>
    change execIdleExpiry s = _ at h
    unfold execIdleExpiry at h
    split at h <;> cases h
    · exact .idleExpire .refl
    · exact .refl
  | cureStep i =>
    change execCureStep i s = _ at h
    unfold execCureStep at h
    split at h <;> cases h
    · next hr => exact State.Reaches.tryRelease (.single (.cureStepped i (by simpa [Option.isSome_iff_ne_none] using hr))) i
    · exact .refl
  | maxCureExpiry i =>
    change execMaxCureExpiry i s = _ at h
    unfold execMaxCureExpiry at h
    split at h <;> cases h
    · next hc =>
      have := (State.Event.reaches (.timedOut i hc.1)).raise .press .releasable
      rwa [State.enterReleasable, State.row_setRow_self, State.setRow, State.setRow, Vec.set_set_self]
    · exact .refl
  | demouldExpiry i => exact execDemouldExpiry_reaches h
  | interlockChange input level => exact execInterlockChange_reaches h
  | unitTimer =>
    have hexp := State.Event.reaches (s := s) (.streamer { s.streamer with unitTimer := Config.unitPeriod, unitOut := none }
      rfl (.inl le_rfl))
    change execUnitTimer s = _ at h
    unfold execUnitTimer at h
    dsimp only at h
    split at h <;> cases h
    · exact hexp.sendNextUnit
    · exact hexp
  | recipeWriteComplete strap =>
    change execRecipeWriteComplete strap s = _ at h
    unfold execRecipeWriteComplete at h
    split at h <;> cases h
    · next hw => exact State.completeWrite_reaches hw strap
    · exact .refl
  | reset strap => exact execReset_reaches h
  | _ => cases hk

theorem exec_reaches {c : Instr} {s t : State} (h : exec c s = .next t) : s.Reaches t := by
  by_cases hk : c.kindByte = none
  · exact exec_reaches_of_no_kindByte hk h
  · obtain ⟨p, hp⟩ := exec_of_kindByte hk s
    exact respond_reaches (takeRequest_reaches c s) (hp ▸ h)

theorem idleStep_reaches {s t : State} (h : idleStep s = .next t) : s.Reaches t := by
  unfold idleStep at h
  split at h
  · cases h
    exact s.tick_reaches
  · next e es _ =>
    have hchoice : s.Reaches (s.afterChoice es) := by
      cases es with
      | nil => exact .refl
      | cons => exact .single (.quiet s.pending s.clock s.pins s.weigh s.reply (s.raceCount + 1))
    exact hchoice.trans (exec_reaches h)

/-- Every step is a chain of events. -/
theorem step_reaches {s t : State} (h : step s = .next t) : s.Reaches t := by
  unfold step at h
  split at h
  · next c rest _ =>
    exact (State.Event.reaches (.quiet rest s.clock s.pins s.weigh s.reply s.raceCount)).trans (exec_reaches h)
  · exact idleStep_reaches h

end Sys2Proof.Machine
end

section
/-! The laws that bound what the part counts, collects and turns on (R26, R54, R56, R119, R139, R163, R164, R167): every event
keeps them, whatever the rows do. They are gathered by the component they speak of, so that an event which leaves a component
as it is leaves its ranges as they are. -/

namespace Sys2Proof.Machine

/-! ### The ranges by component -/

/-- The ranges of a port: its notices in order, its line with them, its counts within two bytes. -/
structure Port.InRange (q : Port) : Prop where
  notices : q.NoticeLaw
  frameErrors : q.frameErrors ≤ 65535
  overruns : q.overruns ≤ 65535

/-- The ranges of a row. -/
structure Row.InRange (r : Row) : Prop where
  elapsed : r.elapsed ≤ 65535
  cavities : ∀ j, (r.cavities.get j).CountLaw

/-- The ranges of the zone regulator. -/
structure Regulator.InRange (g : Regulator) : Prop where
  sampleErrors : g.sampleErrors ≤ 65535
  totalShortfall : ∀ z, (g.zones.get z).totalShortfall ≤ 65535
  integral : ∀ z, (g.zones.get z).integral ≤ 10000

/-- The ranges of the firing allocator. -/
structure Firing.InRange (f : Firing) : Prop where
  limit : (List.finRange 12).countP (fun z => (f.zones.get z).output) ≤ f.limit
  range : f.limit ≤ 12
  owed : ∀ z, (f.zones.get z).owed ≤ (f.zones.get z).frameDuty
  cellShortfall : f.cellShortfall ≤ 65535

/-- The ranges of the records streamer. -/
structure Streamer.InRange (t : Streamer) : Prop where
  readback : t.readback.length ≤ 16
  items : ∀ n ∈ t.readback, isItem n = true
  unitCount : t.unitCount ≤ 255

/-- The ranges of the components that have them. -/
structure Ranges (c : Settings) (ports : Ports) (rows : Vec Row 8) (g : Regulator) (f : Firing) (t : Streamer) : Prop where
  settings : c.Law
  ports : ∀ p, (ports.get p).InRange
  rows : ∀ i, (rows.get i).InRange
  regulator : g.InRange
  firing : f.InRange
  streamer : t.InRange

/-- The state is within its ranges. -/
abbrev State.InRange (s : State) : Prop := Ranges s.settings s.ports s.rows s.regulator s.firing s.streamer

/-- The ranges are four of the laws of a lawful state. -/
theorem State.inRange_iff (s : State) :
    s.InRange ↔ s.settings.Law ∧ s.NoticeLaw ∧ s.SupplyLaw ∧ s.CountLaw := by
  constructor
  · intro h
    exact ⟨h.settings, fun p => (h.ports p).notices, ⟨h.firing.limit, h.firing.range, h.firing.owed⟩,
      ⟨fun i => (h.rows i).cavities, fun i => (h.rows i).elapsed, h.regulator.sampleErrors, h.regulator.totalShortfall,
        h.regulator.integral, h.firing.cellShortfall, h.streamer.readback, h.streamer.items, h.streamer.unitCount,
        fun p => (h.ports p).frameErrors, fun p => (h.ports p).overruns⟩⟩
  · rintro ⟨hset, hnot, hsup, hcnt⟩
    exact ⟨hset, fun p => ⟨hnot p, hcnt.frameErrors p, hcnt.overruns p⟩, fun i => ⟨hcnt.elapsed i, hcnt.cavities i⟩,
      ⟨hcnt.sampleErrors, hcnt.totalShortfall, hcnt.integral⟩, ⟨hsup.limit, hsup.range, hsup.owed, hcnt.cellShortfall⟩,
      ⟨hcnt.readback, hcnt.items, hcnt.unitCount⟩⟩

theorem State.Lawful.inRange {s : State} (h : s.Lawful) : s.InRange :=
  s.inRange_iff.2 ⟨h.settings, h.notices, h.supply, h.counts⟩

/-! ### Ports -/

theorem insertNotice_pairwise {k : NoticeKind} {l : List NoticeKind} (h : l.Pairwise fun a b => a.code < b.code) :
    (insertNotice k l).Pairwise fun a b => a.code < b.code := by
  induction l with
  | nil => exact List.pairwise_singleton _ _
  | cons x xs ih =>
    obtain ⟨hx, hxs⟩ := List.pairwise_cons.1 h
    unfold insertNotice
    split_ifs with heq hlt
    · exact h
    · refine List.pairwise_cons.2 ⟨fun y hy => ?_, h⟩
      rcases List.mem_cons.1 hy with rfl | hy
      · exact hlt
      · exact hlt.trans (hx y hy)
    · refine List.pairwise_cons.2 ⟨fun y hy => ?_, ih hxs⟩
      rcases (mem_insertNotice k y xs).1 hy with rfl | hy
      · have : x.code ≠ y.code := fun hc => heq (by cases x <;> cases y <;> first | rfl | cases hc)
        omega
      · exact hx y hy

theorem insertNotice_ne_nil (k : NoticeKind) (l : List NoticeKind) : insertNotice k l ≠ [] :=
  List.ne_nil_of_mem ((mem_insertNotice k k l).2 (.inl rfl))

theorem Port.InRange.raise {q : Port} (h : q.InRange) (k : NoticeKind) : (q.raise k).InRange where
  notices := ⟨insertNotice_pairwise h.notices.once, by simp [Port.raise, insertNotice_ne_nil]⟩
  frameErrors := h.frameErrors
  overruns := h.overruns

theorem Port.initial_inRange : Port.initial.InRange := ⟨⟨.nil, rfl⟩, Nat.zero_le _, Nat.zero_le _⟩

theorem State.InRange.setPort {s : State} (h : s.InRange) {p : PortId} {q : Port} (hq : q.InRange) :
    (s.setPort p q).InRange := by
  refine { h with ports := fun p' => ?_ }
  change ((s.ports.set p q).get p').InRange
  by_cases hp : p = p'
  · subst hp
    rw [Ports.get_set_self]
    exact hq
  · rw [Ports.get_set_ne _ _ hp]
    exact h.ports p'

theorem State.InRange.raise {s : State} (h : s.InRange) (p : PortId) (k : NoticeKind) : (s.raise p k).InRange :=
  h.setPort ((h.ports p).raise k)

/-! ### Cavity slots and rows -/

theorem Cavity.freed_countLaw : Cavity.freed.CountLaw :=
  ⟨by decide, by decide, by decide, by decide, by decide, by decide, by decide, by decide⟩

/-- A cavity slot that agrees in what it collects is within its ranges too. -/
theorem Cavity.CountLaw.congr {c d : Cavity} (h : c.CountLaw) (acc : d.acc = c.acc) (scorch : d.scorch = c.scorch)
    (blind : d.blind = c.blind) (trace : d.trace = c.trace) (notes : d.notes = c.notes)
    (dropped : d.notesDropped = c.notesDropped) : d.CountLaw where
  acc := acc ▸ h.acc
  scorch := scorch ▸ h.scorch
  blind := blind ▸ h.blind
  trace := trace ▸ h.trace
  notes := notes ▸ h.notes
  kinds := notes ▸ h.kinds
  noteCount := notes ▸ h.noteCount
  dropped := dropped ▸ h.dropped

theorem Cavity.CountLaw.giveNote {c : Cavity} (h : c.CountLaw) (kind : NoteKind) (offset : Nat) :
    (c.giveNote kind offset).CountLaw := by
  unfold Cavity.giveNote
  split_ifs with hdue hhas hroom
  · exact h
  · refine { h with notes := ?_, kinds := ?_, noteCount := ?_ }
    · rw [List.length_map]
      exact h.notes
    · have hkind : ∀ n : Note, (if n.kind = kind then ({ n with count := min (n.count + 1) 255 } : Note) else n).kind =
          n.kind := fun n => by split <;> rfl
      rw [List.map_map, show Note.kind ∘ _ = Note.kind from funext hkind]
      exact h.kinds
    · intro n hn
      obtain ⟨m, hm, rfl⟩ := List.mem_map.1 hn
      have := h.noteCount m hm
      split
      · exact ⟨by dsimp only; omega, Nat.min_le_right _ _⟩
      · exact this
  · refine { h with notes := ?_, kinds := ?_, noteCount := ?_ }
    · rw [List.length_append]
      exact hroom
    · rw [List.map_append, List.map_singleton, List.nodup_append]
      refine ⟨h.kinds, List.nodup_singleton _, fun a ha b hb => ?_⟩
      rw [List.mem_singleton.1 hb]
      rintro rfl
      obtain ⟨n, hn, rfl⟩ := List.mem_map.1 ha
      exact hhas (List.any_eq_true.2 ⟨n, hn, by simp⟩)
    · intro n hn
      rcases List.mem_append.1 hn with hn | hn
      · exact h.noteCount n hn
      · rw [List.mem_singleton.1 hn]
        exact ⟨le_rfl, show 1 ≤ 255 by decide⟩
  · exact { h with dropped := Nat.min_le_right _ _ }

theorem Cavity.CountLaw.giveNote? {c : Cavity} (h : c.CountLaw) (kind : Option NoteKind) (offset : Nat) :
    (c.giveNote? kind offset).CountLaw := by
  cases kind with
  | none => exact h
  | some k => exact h.giveNote k offset

theorem Cavity.CountLaw.close {c : Cavity} (h : c.CountLaw) (permit : Bool) : (c.close permit).CountLaw := by
  unfold Cavity.close
  split
  · exact h.congr rfl rfl rfl rfl rfl rfl
  · dsimp only
    split
    · exact { h with acc := Nat.zero_le _ }
    · exact { h.giveNote .unpermittedClose 0 with acc := Nat.zero_le _ }
  · exact h
  · exact h

theorem Cavity.CountLaw.forceOpen {c : Cavity} (h : c.CountLaw) (offset : Nat) : (c.forceOpen offset).CountLaw := by
  unfold Cavity.forceOpen
  split
  · exact (h.giveNote .forcedOpen offset).congr rfl rfl rfl rfl rfl rfl
  · exact h

theorem Cavity.CountLaw.timeOut {c : Cavity} (h : c.CountLaw) : c.timeOut.CountLaw := by
  unfold Cavity.timeOut
  split
  · exact h.congr rfl rfl rfl rfl rfl rfl
  · exact h

theorem Cavity.CountLaw.takeCharge {c : Cavity} (h : c.CountLaw) (res : WeighResult) (now : Clock) (target : Nat)
    (override : Bool) : (c.takeCharge res now target override).CountLaw := by
  unfold Cavity.takeCharge
  dsimp only
  split
  · refine Cavity.CountLaw.giveNote ?_ _ _
    exact h.congr rfl rfl rfl rfl rfl rfl
  · exact h.congr rfl rfl rfl rfl rfl rfl

theorem Cavity.CountLaw.placed {c : Cavity} (h : c.CountLaw) (r : PartRecord) (room : Prop) [Decidable room] :
    (c.placed r room).CountLaw := h.congr rfl rfl rfl rfl rfl rfl

theorem Cavity.CountLaw.reachTest {c : Cavity} (h : c.CountLaw) (n : Nat) : (c.reachTest n).CountLaw := by
  unfold Cavity.reachTest
  split
  · exact h.congr rfl rfl rfl rfl rfl rfl
  · exact h

theorem Cavity.CountLaw.accumulate {c : Cavity} (h : c.CountLaw) (factor : Nat) : (c.accumulate factor).CountLaw :=
  { h with acc := Nat.min_le_right _ _ }

theorem Cavity.CountLaw.updatePeak {c : Cavity} (h : c.CountLaw) (theta : Int) : (c.updatePeak theta).CountLaw := by
  unfold Cavity.updatePeak
  split
  · split
    · exact h.congr rfl rfl rfl rfl rfl rfl
    · exact h
  · exact h.congr rfl rfl rfl rfl rfl rfl

theorem Cavity.CountLaw.countScorch {c : Cavity} (h : c.CountLaw) (scorchTemp theta : Int) :
    (c.countScorch scorchTemp theta).CountLaw := by
  unfold Cavity.countScorch
  split
  · exact { h with scorch := Nat.min_le_right _ _ }
  · exact h

theorem Cavity.CountLaw.tracePoint {c : Cavity} (h : c.CountLaw) (n : Nat) (theta : Int) :
    (c.tracePoint n theta).CountLaw := by
  unfold Cavity.tracePoint
  split_ifs with hroom
  · refine { h with trace := ?_ }
    rw [List.length_append]
    exact hroom
  · exact h
  · exact (h.giveNote .traceTruncated n).congr rfl rfl rfl rfl rfl rfl

theorem Cavity.CountLaw.cureStep {c : Cavity} (h : c.CountLaw) (r : Recipe) (n : Nat) (offset : Int)
    (top bottom : Option Int) : (c.cureStep r n offset top bottom).CountLaw := by
  have hnote := h.giveNote? (temperatureNote top bottom) n
  unfold Cavity.cureStep
  split
  · dsimp only
    split
    · refine Cavity.CountLaw.reachTest ?_ n
      exact { hnote with blind := Nat.min_le_right _ _ }
    · next theta _ =>
      have hmoved := (((hnote.accumulate (rateFactor r theta)).reachTest n).updatePeak theta).countScorch r.scorchTemp theta
      split
      · exact hmoved.tracePoint n theta
      · exact hmoved
  · exact h

theorem Row.freed_inRange : Row.freed.InRange := ⟨Nat.zero_le _, fun j => by
  rw [Row.freed_cavity]
  exact Cavity.freed_countLaw⟩

/-- A row that agrees in its elapsed seconds and its cavity slots is within its ranges too. -/
theorem Row.InRange.congr {r q : Row} (h : r.InRange) (elapsed : q.elapsed = r.elapsed) (cavities : q.cavities = r.cavities) :
    q.InRange := ⟨elapsed ▸ h.elapsed, cavities ▸ h.cavities⟩

theorem Row.InRange.modifyCavity {r : Row} (h : r.InRange) (j : Fin 8) {f : Cavity → Cavity}
    (hf : ∀ c : Cavity, c.CountLaw → (f c).CountLaw) : (r.modifyCavity j f).InRange where
  elapsed := h.elapsed
  cavities k := by
    change ((r.cavities.modify j f).get k).CountLaw
    rw [Vec.get_modify]
    split
    · exact hf _ (h.cavities k)
    · exact h.cavities k

theorem Row.InRange.mapCavities {r : Row} (h : r.InRange) {f : Cavity → Cavity}
    (hf : ∀ c : Cavity, c.CountLaw → (f c).CountLaw) : (r.mapCavities f).InRange where
  elapsed := h.elapsed
  cavities k := by
    change ((r.cavities.map f).get k).CountLaw
    rw [Vec.get_map]
    exact hf _ (h.cavities k)

theorem Row.InRange.clearPermit {r : Row} (h : r.InRange) : r.clearPermit.InRange := by
  rw [Row.clearPermit_eq]
  exact h.congr rfl rfl

theorem Row.InRange.closeRank {r : Row} (h : r.InRange) (g : Option Nat) : (r.closeRank g).InRange := by
  unfold Row.closeRank
  split
  · split
    · exact h.congr rfl rfl
    · exact h
  · exact h

theorem Row.InRange.cureStep {r : Row} (h : r.InRange) (recipe : Recipe) (reading : Nat → Option Int) :
    (r.cureStep recipe reading).InRange where
  elapsed := Nat.min_le_right _ _
  cavities j := by
    simp only [Row.cureStep, Vec.get_mapIdx]
    exact (h.cavities j).cureStep _ _ _ _ _

theorem Row.InRange.noteShortfall {r : Row} (h : r.InRange) (now : Clock) (recipe : Recipe) (owed : Nat → Nat) :
    (r.noteShortfall now recipe owed).InRange where
  elapsed := h.elapsed
  cavities j := by
    simp only [Row.noteShortfall, Vec.get_mapIdx]
    split
    · exact (h.cavities j).giveNote _ _
    · exact h.cavities j

theorem openedRow_inRange (shot : Nat) (k : Fin 8) (rank : Nat) (now : Clock) (chosen : Vec Bool 8) :
    (openedRow shot k rank now chosen).InRange where
  elapsed := Nat.zero_le _
  cavities j := by
    simp only [openedRow, Vec.get_map]
    split
    · exact Cavity.freed_countLaw.congr rfl rfl rfl rfl rfl rfl
    · exact Cavity.freed_countLaw

/-! ### Rows of the state -/

theorem State.InRange.mapRows {s : State} (h : s.InRange) {f : Row → Row} (hf : ∀ r : Row, r.InRange → (f r).InRange) :
    ({ s with rows := s.rows.map f } : State).InRange := by
  refine { h with rows := fun i => ?_ }
  rw [Vec.get_map]
  exact hf _ (h.rows i)

theorem State.InRange.setRow {s : State} (h : s.InRange) (i : Fin 8) {r : Row} (hr : r.InRange) :
    (s.setRow i r).InRange := by
  refine { h with rows := fun k => ?_ }
  rw [State.setRow_rows, Vec.get_set]
  split
  · exact hr
  · exact h.rows k

theorem State.InRange.modifyCavity {s : State} (h : s.InRange) (i j : Fin 8) {f : Cavity → Cavity}
    (hf : ∀ c : Cavity, c.CountLaw → (f c).CountLaw) : (s.modifyCavity i j f).InRange :=
  h.setRow i ((h.rows i).modifyCavity j hf)

theorem State.InRange.clearRow {s : State} (h : s.InRange) (i : Fin 8) : (s.clearRow i).InRange := by
  refine { h with rows := fun k => ?_ }
  change ((s.clearRow i).row k).InRange
  by_cases hk : i = k
  · subst hk
    rw [State.clearRow_row_self]
    exact Row.freed_inRange
  · rw [State.clearRow_row_ne _ hk]
    exact (h.rows k).closeRank _

theorem State.InRange.releaseReserved {s : State} (h : s.InRange) (recipe : Option (Fin 8)) (n : Nat) :
    (s.releaseReserved recipe n).InRange := by
  cases recipe <;> exact h

theorem State.InRange.enterRing {s : State} (h : s.InRange) (r : PartRecord) : (s.enterRing r).InRange := by
  unfold State.enterRing
  dsimp only
  split
  · exact State.InRange.raise (s := { s with ring := s.ring ++ [r] }) h _ _
  · exact h

theorem State.InRange.accountRun {s : State} (h : s.InRange) (recipe : Option (Fin 8)) (v : Verdict) :
    (s.accountRun recipe v).InRange := by
  unfold State.accountRun
  split
  · next k =>
    have hrun : (s.modifyRun k fun e => e.account v).InRange := h
    dsimp only
    split
    · exact ((hrun.raise _ _).raise _ _).raise _ _
    · exact hrun
  · exact h

theorem State.InRange.placeRecord {s : State} (h : s.InRange) (i j : Fin 8) (r : PartRecord) :
    (s.placeRecord i j r).InRange := by
  unfold State.placeRecord
  split
  · exact (h.modifyCavity i j (f := fun c => { c with record := .recorded }) fun _ hc =>
      hc.congr rfl rfl rfl rfl rfl rfl).enterRing r
  · exact h.modifyCavity i j (f := fun c => { c with record := .queued, frozen := some r }) fun _ hc =>
      hc.congr rfl rfl rfl rfl rfl rfl

theorem State.InRange.recordDue {s : State} (h : s.InRange) (i j : Fin 8) (o : ToolOutcome) :
    (s.recordDue i j o).InRange :=
  ((h.modifyCavity i j (f := fun c => { c with verdict := some (s.freeze i j o).verdict }) fun _ hc =>
    hc.congr rfl rfl rfl rfl rfl rfl).accountRun _ _).placeRecord i j _

theorem State.InRange.recordQueued {s : State} (h : s.InRange) (i j : Fin 8) : (s.recordQueued i j).InRange := by
  have hc := h.modifyCavity i j (f := fun c => { c with record := .recorded, frozen := none }) fun _ hc =>
    hc.congr rfl rfl rfl rfl rfl rfl
  unfold State.recordQueued
  dsimp only
  split
  · exact hc.enterRing _
  · exact hc

theorem State.InRange.foldl {α : Type} {f : State → α → State} (hf : ∀ s a, s.InRange → (f s a).InRange) {s : State}
    (h : s.InRange) (l : List α) : (l.foldl f s).InRange := by
  induction l generalizing s with
  | nil => exact h
  | cons a l ih => exact ih (hf s a h)

theorem State.InRange.platenMoved {s : State} (h : s.InRange) (p : PlatenState) (recipe : Option (Fin 8)) :
    (s.platenMoved p recipe).InRange := by
  refine { h with
    rows := fun i => ?_
    regulator := ⟨h.regulator.sampleErrors, h.regulator.totalShortfall, h.regulator.integral⟩ }
  change ((if s.regulator.platen = .ready then s.rows.map Row.clearPermit else s.rows).get i).InRange
  split
  · rw [Vec.get_map]
    exact (h.rows i).clearPermit
  · exact h.rows i

/-! ### The regulator and the firing allocator -/

theorem nextIntegral_le {kp ki maxDuty integral : Nat} {e : Int} (h : integral ≤ 10000) :
    nextIntegral kp ki maxDuty integral e ≤ 10000 := by
  unfold nextIntegral
  split <;> omega

theorem Zone.computeDuty_integral_le {z : Zone} (h : z.integral ≤ 10000) (r : Recipe) (i : Fin 12) :
    (z.computeDuty r i).integral ≤ 10000 := by
  unfold Zone.computeDuty
  split_ifs
  · exact Nat.zero_le _
  · exact h
  · split
    · exact h
    · split
      · exact h
      · exact nextIntegral_le h

theorem Zone.computeDuty_totalShortfall (z : Zone) (r : Recipe) (i : Fin 12) :
    (z.computeDuty r i).totalShortfall = z.totalShortfall := by
  unfold Zone.computeDuty
  split_ifs
  · rfl
  · rfl
  · split
    · rfl
    · split <;> rfl

/-- Of the indices with a property, no more than `limit` stand behind fewer than `limit` others in a ranking: each stands
behind another number of them. -/
theorem countP_first_le {n : Nat} (p : Fin n → Bool) {rank : Fin n → Nat} (distinct : ∀ i k, rank i = rank k → i = k)
    (limit : Nat) : ((List.finRange n).countP fun i =>
      p i && decide (((List.finRange n).countP fun k => p k && decide (rank k < rank i)) < limit)) ≤ limit := by
  let before := fun i => (List.finRange n).countP fun k => p k && decide (rank k < rank i)
  have below : ∀ i k, p i = true → rank i < rank k → before i < before k := by
    intro i k hi hik
    simp only [before, List.countP_eq_length_filter]
    have hsub : List.Sublist ((List.finRange n).filter fun m => p m && decide (rank m < rank i))
        ((List.finRange n).filter fun m => p m && decide (rank m < rank k)) := List.monotone_filter_right _ fun m hm => by
      simp only [Bool.and_eq_true, decide_eq_true_eq] at hm ⊢
      exact ⟨hm.1, hm.2.trans hik⟩
    refine hsub.length_le.lt_of_ne fun hlen => ?_
    have hmem : i ∈ (List.finRange n).filter fun m => p m && decide (rank m < rank k) := by simp [hi, hik]
    rw [← hsub.eq_of_length hlen] at hmem
    simp at hmem
  rw [List.countP_eq_length_filter]
  have hnodup : (((List.finRange n).filter fun i => p i && decide (before i < limit)).map before).Nodup := by
    refine List.Nodup.map_on (fun i hi k hk heq => ?_) ((List.nodup_finRange n).filter _)
    simp only [List.mem_filter, Bool.and_eq_true] at hi hk
    rcases Nat.lt_trichotomy (rank i) (rank k) with hlt | he | hgt
    · exact absurd heq (below i k hi.2.1 hlt).ne
    · exact distinct i k he
    · exact absurd heq (below k i hk.2.1 hgt).ne'
  have hsub : ((List.finRange n).filter fun i => p i && decide (before i < limit)).map before ⊆ List.range limit := by
    intro m hm
    obtain ⟨i, hi, rfl⟩ := List.mem_map.1 hm
    simp only [List.mem_filter, Bool.and_eq_true, decide_eq_true_eq] at hi
    exact List.mem_range.2 hi.2.2
  have := (hnodup.subperm hsub).length_le
  rwa [List.length_map, List.length_range] at this

/-- No more zones are granted a slot than the limit (R56). -/
theorem countP_granted_le {rank : Vec Nat 12} (distinct : ∀ z w, rank.get z = rank.get w → z = w)
    (zones : Vec FiringZone 12) (limit slot : Nat) :
    (List.finRange 12).countP (granted rank zones limit slot) ≤ limit :=
  countP_first_le (fun z => (zones.get z).candidate slot) distinct limit

theorem State.supplyLimitNow_le {s : State} (h : s.settings.Law) : s.supplyLimitNow ≤ 12 := by
  unfold State.supplyLimitNow
  split
  · exact h.holdLimit
  · exact h.supplyLimit

theorem State.InRange.startSlot {s : State} (h : s.InRange) (k : Nat) : (s.startSlot k).InRange := by
  refine { h with firing := ⟨?limit, s.supplyLimitNow_le h.settings, fun z => ?owed, h.firing.cellShortfall⟩ }
  case limit =>
    have := countP_granted_le h.settings.rankDistinct s.firing.zones s.supplyLimitNow k
    simpa only [State.startSlot, Vec.get_mapIdx, FiringZone.arbitrated] using this
  case owed =>
    have := h.firing.owed z
    simp only [State.startSlot, Vec.get_mapIdx, FiringZone.arbitrated]
    split <;> omega

theorem State.InRange.openFrame {s : State} (h : s.InRange) : s.openFrame.InRange := by
  refine State.InRange.startSlot ?_ 0
  refine { h with firing := ⟨?_, h.firing.range, fun z => ?_, h.firing.cellShortfall⟩ }
  · simpa only [Vec.get_mapIdx] using h.firing.limit
  · simp only [Vec.get_mapIdx, le_refl]

theorem State.InRange.computeDuties {s : State} (h : s.InRange) : s.computeDuties.InRange := by
  refine { h with regulator := ⟨h.regulator.sampleErrors, fun z => ?_, fun z => ?_⟩ }
  · rw [State.computeDuties_zone, Zone.computeDuty_totalShortfall]
    exact h.regulator.totalShortfall z
  · rw [State.computeDuties_zone]
    exact Zone.computeDuty_integral_le (h.regulator.integral z) _ z

theorem State.InRange.closeFrame {s : State} (h : s.InRange) : s.closeFrame.InRange := by
  unfold State.closeFrame
  split
  · have hclosed : ({ s with
        regulator := { s.regulator with
          zones := s.regulator.zones.mapIdx fun i z => z.addShortfall (s.firing.zones.get i).owed }
        firing := { s.firing with
          cellShortfall := min (s.firing.cellShortfall + s.firing.owedTotal) Config.countMax } } : State).InRange := by
      refine { h with
        regulator := ⟨h.regulator.sampleErrors, fun z => ?_, fun z => ?_⟩
        firing := ⟨h.firing.limit, h.firing.range, h.firing.owed, Nat.min_le_right _ _⟩ }
      · rw [Vec.get_mapIdx]
        exact Nat.min_le_right _ _
      · rw [Vec.get_mapIdx]
        exact h.regulator.integral z
    dsimp only
    split
    · refine { hclosed with
        rows := fun i => ?_
        streamer := ⟨h.streamer.readback, h.streamer.items, h.streamer.unitCount⟩ }
      simp only [State.shortfallNotes, State.setWarning_rows, Vec.get_mapIdx]
      exact (h.rows i).noteShortfall _ _ _
    · exact hclosed
  · exact h

theorem State.InRange.enterOff {s : State} (h : s.InRange) : s.enterOff.InRange := by
  rw [State.enterOff_eq]
  have hmoved := h.platenMoved .off none
  refine { h with
    ports := fun p => ?_
    rows := hmoved.rows
    regulator := ⟨h.regulator.sampleErrors, fun z => ?_, fun z => ?_⟩
    firing := ⟨?_, h.firing.range, fun z => ?_, h.firing.cellShortfall⟩ }
  · cases p
    case press =>
      change (if s.regulator.platen = .ready then s.ports.press.raise .platenNotReady else s.ports.press).InRange
      split
      · exact (h.ports .press).raise _
      · exact h.ports .press
    case charge => exact h.ports .charge
    case extract => exact h.ports .extract
    case records => exact h.ports .records
  · rw [Vec.get_map]
    exact h.regulator.totalShortfall z
  · rw [Vec.get_map]
    exact Nat.zero_le _
  · simp [FiringZone.dropped]
  · rw [Vec.get_map]
    exact Nat.zero_le _

/-! ### The settings record -/

theorem entryValue_range {e : Nat × List Byte} : (settingRange e.1).1 ≤ entryValue e ∧ entryValue e ≤ (settingRange e.1).2 := by
  have := settingRange_le e.1
  rw [entryValue_eq]
  omega

theorem applyEntry_firingRank_law {c : Settings} (h : c.Law) {l : List Byte} (hlen : l.length = 12)
    (hrank : l.Nodup ∧ ∀ b ∈ l, b.toNat ≤ 11) : (applyEntry c (3, l)).Law := by
  obtain ⟨hnodup, hle⟩ := hrank
  have hget : ∀ z : Fin 12, (applyEntry c (3, l)).firingRank.get z = (l[z.val]'(by omega)).toNat := fun z => by
    change ((Vec.ofFn fun z : Fin 12 => byteAt l z.val).get z) = _
    rw [Vec.get_ofFn, byteAt, List.getD_eq_getElem]
  refine { h with rankRange := fun z => ?_, rankDistinct := fun z w hzw => ?_ }
  · rw [hget]
    exact hle _ (List.getElem_mem _)
  · rw [hget, hget] at hzw
    exact Fin.ext ((hnodup.getElem_inj_iff).1 (BitVec.eq_of_toNat_eq hzw))

/-- The bounds of the clamped fields, read off the range table of R167. -/
theorem applyEntry_law {c : Settings} (h : c.Law) {e : Nat × List Byte} (hs : EntrySized e) (hc : EntryContent e) :
    (applyEntry c e).Law := by
  obtain ⟨f, l⟩ := e
  have hv := entryValue_range (e := (f, l))
  obtain ⟨hlow, hhigh, hlen⟩ := hs
  obtain ⟨hrank, hitem⟩ := hc
  simp only at hlow hhigh hlen hrank hitem
  have hitemValue : (settingRange f = (0, 65535)) → (f = 19 ∨ f = 20) → isItem (entryValue (f, l)) = true := by
    intro hr hf
    have hword : entryValue (f, l) = wordAt l 0 := by
      have := wordAt_lt l 0
      rw [entryValue_eq, hr]
      dsimp only
      omega
    rw [hword]
    exact (isItem_wordAt_iff (by rw [hlen, if_neg (by omega)])).2 (hitem hf)
  interval_cases f
  · exact { h with supplyLimit := hv.2 }
  · exact { h with holdLimit := hv.2 }
  · exact applyEntry_firingRank_law h hlen (hrank rfl)
  · refine { h with stagger := fun z => ?_ }
    change ((Vec.ofFn fun z : Fin 12 => clampTo 0 99 (byteAt l z.val)).get z) ≤ 99
    rw [Vec.get_ofFn, clampTo_eq (by decide)]
    omega
  · exact { h with sampleStaleMs := hv }
  · exact { h with readyBand := hv }
  · exact { h with readyDwell := hv }
  · exact { h with idleLimit := hv.2 }
  · exact { h with setback := hv.2 }
  · exact { h with tareBand := hv }
  · exact { h with tareCount := hv }
  · exact { h with tareTimeout := hv }
  · exact { h with tareLimit := hv.2 }
  · exact { h with emptyThreshold := hv.2 }
  · exact { h with }
  · exact { h with nd := hv }
  · exact { h with ne := hv }
  · exact { h with }
  · exact { h with autoA := hitemValue rfl (.inl rfl) }
  · exact { h with autoB := hitemValue rfl (.inr rfl) }

theorem foldl_applyEntry_law {c : Settings} (h : c.Law) {es : List (Nat × List Byte)}
    (hes : ∀ e ∈ es, EntrySized e ∧ EntryContent e) : (es.foldl applyEntry c).Law := by
  induction es generalizing c with
  | nil => exact h
  | cons e es ih =>
    obtain ⟨hsized, hcontent⟩ := hes e List.mem_cons_self
    exact ih (applyEntry_law h hsized hcontent) fun x hx => hes x (List.mem_cons_of_mem e hx)

theorem State.appliedSettings_law {s : State} (h : s.settings.Law) {es : List (Nat × List Byte)} (hes : EntriesPass es) :
    (s.appliedSettings es).Law :=
  foldl_applyEntry_law h fun e he => hes.2.2 e (List.mem_filter.1 he).1

theorem Settings.default_law : Settings.default.Law := by
  constructor
  case rankRange => exact fun z => by simp only [Settings.default, Vec.get_ofFn]; omega
  case rankDistinct => exact fun z w h => by simpa only [Settings.default, Vec.get_ofFn, Fin.val_inj] using h
  case stagger => exact fun z => by simp only [Settings.default, Vec.get_ofFn]; omega
  all_goals decide

/-! ### CELL_CLEAR and RESET -/

theorem State.InRange.flushQueue {s : State} (h : s.InRange) : s.flushQueue.InRange :=
  State.InRange.foldl (s := { s with recordQueue := [] }) (fun _ p ht => ht.recordQueued p.1 p.2) h s.recordQueue

theorem State.InRange.clearAllDue {s : State} (h : s.InRange) : s.clearAllDue.InRange := by
  refine State.InRange.foldl (fun t i ht => State.InRange.foldl (fun u j hu => ?_) ht _) h _
  unfold State.clearDue
  split
  · exact hu.recordDue i j .cleared
  · exact hu

theorem State.InRange.releaseUnmoulded {s : State} (h : s.InRange) : s.releaseUnmoulded.InRange := by
  refine State.InRange.foldl (fun t i ht => ?_) h _
  split
  · exact ht.releaseReserved _ _
  · exact ht

theorem State.InRange.freeAll {s : State} (h : s.InRange) : s.freeAll.InRange :=
  { h with rows := fun i => (Vec.get_replicate Row.freed i).symm ▸ Row.freed_inRange }

theorem State.InRange.endRun {s : State} (h : s.InRange) (e : RunEnd) : (s.endRun e).InRange := by
  unfold State.endRun
  split
  · exact h
  · split
    · exact State.InRange.raise (s := { s with weigh := _ }) h _ _
    · exact State.InRange.raise (s := { s with weigh := _ }) h _ _

theorem State.InRange.withdrawGrant {s : State} (h : s.InRange) : s.withdrawGrant.InRange := by
  unfold State.withdrawGrant
  split
  · exact State.InRange.raise (s := { s with extraction := _ }) h _ _
  · exact h

theorem State.InRange.cellToolClear {s : State} (h : s.InRange) : s.cellToolClear.InRange := by
  unfold State.cellToolClear
  dsimp only
  split
  · exact State.InRange.raise (s := { s with extraction := _ }) h _ _
  · exact h

theorem State.InRange.startIdle {s : State} (h : s.InRange) : s.startIdle.InRange :=
  { h with regulator := ⟨h.regulator.sampleErrors, h.regulator.totalShortfall, h.regulator.integral⟩ }

theorem Row.InRange.forceCleared {r : Row} (h : r.InRange) (now : Clock) : (r.forceCleared now).InRange :=
  h.mapCavities fun c hc => by
    split
    · exact (hc.giveNote .clearedByCell (noteOffset now r)).congr rfl rfl rfl rfl rfl rfl
    · exact hc

theorem State.InRange.clearCell {s : State} (h : s.InRange) : s.clearCell.InRange :=
  ((((((h.mapRows fun _ hr => hr.forceCleared s.clock).flushQueue.clearAllDue).releaseUnmoulded.freeAll).withdrawGrant).endRun
    .cancelled).cellToolClear).startIdle

theorem State.reset_inRange : State.reset.InRange where
  settings := Settings.default_law
  ports p := by cases p <;> exact Port.initial_inRange
  rows i := (Vec.get_replicate Row.freed i).symm ▸ Row.freed_inRange
  regulator := ⟨Nat.zero_le _, fun z => by rw [State.reset, Vec.get_replicate]; decide,
    fun z => by rw [State.reset, Vec.get_replicate]; decide⟩
  firing := ⟨by decide, by decide, fun z => by rw [State.reset, Vec.get_replicate]; decide, by decide⟩
  streamer := ⟨by decide, by decide, by decide⟩

/-! ### Every event keeps the ranges -/

theorem State.InRange.streamer_of {s : State} (h : s.InRange) {t : Streamer} (queue : t.readback = s.streamer.readback)
    (count : t.unitCount ≤ s.streamer.unitCount ∨ t.unitCount ≤ s.settings.nd) :
    ({ s with streamer := t } : State).InRange :=
  { h with streamer := ⟨queue ▸ h.streamer.readback, queue ▸ h.streamer.items, by
      have := h.streamer.unitCount
      have := h.settings.nd
      dsimp only
      omega⟩ }

theorem State.InRange.sendStatus {s : State} (h : s.InRange) : s.sendStatus.InRange :=
  { h with streamer :=
      ⟨(List.drop_sublist 2 _).length_le.trans h.streamer.readback, fun n hn => h.streamer.items n (List.mem_of_mem_drop hn),
        Nat.zero_le _⟩ }

theorem State.InRange.itemQueued {s : State} (h : s.InRange) {item : Nat} (hitem : isItem item = true)
    (room : s.streamer.readback.length < Config.readbackSlots) :
    ({ s with streamer := { s.streamer with readback := s.streamer.readback ++ [item] } } : State).InRange := by
  refine { h with streamer := ⟨?_, fun n hn => ?_, h.streamer.unitCount⟩ }
  · rw [List.length_append]
    exact room
  · rcases List.mem_append.1 hn with hn | hn
    · exact h.streamer.items n hn
    · rwa [List.mem_singleton.1 hn]

theorem State.InRange.withOutcome {s : State} (h : s.InRange) (grant : Option Grant) (i j : Fin 8) (o : ToolOutcome) :
    (s.withOutcome grant i j o).InRange := by
  have hdue := (State.InRange.modifyCavity (s := s.setGrant grant) h i j (f := fun c => { c with tool := o.status })
    fun _ hc => hc.congr rfl rfl rfl rfl rfl rfl).recordDue i j o
  unfold State.withOutcome
  dsimp only
  split
  · exact hdue
  · exact hdue

theorem State.InRange.ringTurned {s : State} (h : s.InRange) : s.ringTurned.InRange := by
  unfold State.ringTurned
  split
  · exact h
  · next i j rest _ =>
    exact State.InRange.recordQueued (s := { s with ring := s.ring.tail, recordQueue := rest }) h i j

theorem State.InRange.event {s t : State} (h : s.InRange) (e : s.Event t) : t.InRange := by
  cases e with
  | quiet => exact h
  | link p q notices line errors overruns =>
    have hp := h.ports p
    refine h.setPort ⟨⟨notices ▸ hp.notices.once, by rw [line, notices]; exact hp.notices.attention⟩, ?_, ?_⟩
    · rcases errors with he | he
      · exact he ▸ hp.frameErrors
      · exact he
    · rcases overruns with he | he
      · exact he ▸ hp.overruns
      · exact he
  | polled p => exact h.setPort ⟨⟨.nil, rfl⟩, (h.ports p).frameErrors, (h.ports p).overruns⟩
  | raised p k => exact h.raise p k
  | streamer t queue count => exact h.streamer_of queue count
  | statusSent => exact h.sendStatus
  | itemQueued item hitem room => exact h.itemQueued hitem room
  | zones zones dwell idleTimer integral total =>
    exact { h with regulator := ⟨h.regulator.sampleErrors, fun z => total z ▸ h.regulator.totalShortfall z,
      fun z => integral z ▸ h.regulator.integral z⟩ }
  | sampleError =>
    exact { h with regulator := ⟨Nat.min_le_right _ _, h.regulator.totalShortfall, h.regulator.integral⟩ }
  | duties => exact h.computeDuties
  | frameClosed => exact h.closeFrame
  | frameOpened => exact h.openFrame
  | slotStarted k => exact h.startSlot k
  | frameTimers =>
    exact { h with firing := ⟨h.firing.limit, h.firing.range, h.firing.owed, h.firing.cellShortfall⟩ }
  | platenReady =>
    exact { h with regulator := ⟨h.regulator.sampleErrors, h.regulator.totalShortfall, h.regulator.integral⟩ }
  | platenMoved p recipe => exact h.platenMoved p recipe
  | platenOff => exact h.enterOff
  | settingsWritten es pass => exact { h with settings := State.appliedSettings_law h.settings pass }
  | runSet => exact h
  | locked => exact h
  | writeStarted => exact h
  | writeCompleted => exact h
  | rowTaken i k shot => exact h.setRow i (openedRow_inRange shot k _ _ _)
  | aborted i => exact (h.releaseReserved _ _).clearRow i
  | freed i => exact h.clearRow i
  | permitted i => exact h.setRow i ((h.rows i).congr rfl rfl)
  | closed i =>
    refine State.InRange.mapRows (State.InRange.releaseReserved (h.setRow i ⟨Nat.zero_le _, fun j => ?_⟩) _ _)
      fun _ hr => hr.clearPermit
    rw [Row.close_cavity]
    exact ((h.rows i).cavities j).close _
  | released i => exact h.setRow i ((h.rows i).congr rfl rfl)
  | timedOut i => exact h.setRow i (((h.rows i).mapCavities fun _ hc => hc.timeOut).congr rfl rfl)
  | cureStepped i => exact h.setRow i ((h.rows i).cureStep _ _)
  | pressOpened i =>
    refine h.setRow i ⟨(h.rows i).elapsed, fun j => ?_⟩
    rw [Row.openPress_cavity]
    exact ((h.rows i).cavities j).forceOpen _
  | attempted i j n => exact h.modifyCavity i j fun _ hc => hc.congr rfl rfl rfl rfl rfl rfl
  | noted i j kind offset => exact h.modifyCavity i j fun _ hc => hc.giveNote kind offset
  | admitted i j res target override =>
    refine h.setRow i ?_
    have hcharge := (h.rows i).modifyCavity j fun _ hc => hc.takeCharge res s.clock target override
    unfold Row.tryCharged
    split
    · exact hcharge.congr rfl rfl
    · exact hcharge
  | granted i j => exact h.modifyCavity i j fun _ hc => hc.congr rfl rfl rfl rfl rfl rfl
  | ungranted g inputs kind offset =>
    refine State.InRange.modifyCavity (s := { s with extraction := _ }) h g.row g.cavity fun c hc => ?_
    exact Cavity.CountLaw.giveNote? (c := { c with tool := .inTool }) (hc.congr rfl rfl rfl rfl rfl rfl) kind offset
  | inputs => exact h
  | outcome i j o grant => exact h.withOutcome grant i j o
  | cleared i j => exact h.modifyCavity i j fun _ hc => hc.congr rfl rfl rfl rfl rfl rfl
  | windowClosed i => exact h.setRow i ((h.rows i).congr rfl rfl)
  | ringTurned => exact h.ringTurned
  | rowsTicked => exact h.mapRows fun _ hr => hr.congr rfl rfl
  | cellCleared => exact h.clearCell
  | reset strap => exact State.reset_inRange

/-- A step from a lawful state stays within the ranges. -/
theorem State.Lawful.step_inRange {s t : State} (h : s.Lawful) (hstep : step s = .next t) : t.InRange :=
  (step_reaches hstep).keeps (fun _ _ hs e => hs.event e) h.inRange

end Sys2Proof.Machine
end

section
open Sys2Proof Sys2Proof.Machine

/-- Settles O14: the ranges of the firing allocator. -/
theorem supplyLawKept : Obligations.SupplyLawKept := fun _ t h hstep => (t.inRange_iff.1 (h.step_inRange hstep)).2.2.1

/-- Settles O15: the ranges of the settings record. -/
theorem settingsLawKept : Obligations.SettingsLawKept := fun _ _ h hstep => (h.step_inRange hstep).settings

/-- Settles O16: the ranges of the ports. -/
theorem noticeLawKept : Obligations.NoticeLawKept := fun _ t h hstep => (t.inRange_iff.1 (h.step_inRange hstep)).2.1

/-- Settles O17: the ranges of all that counts. -/
theorem countLawKept : Obligations.CountLawKept := fun _ t h hstep => (t.inRange_iff.1 (h.step_inRange hstep)).2.2.2
end

section
/-! The validation of a recipe (R145, R148) and its 213 bytes (R147): the checks of the two passes in the words of the spec, the
valid recipes as those that pass them, and the bytes of a recipe cut into its fields. -/

namespace Sys2Proof.Machine

/-! ### The checks one by one (R148) -/

theorem inRange_iff (n lo hi : Nat) : inRange n lo hi = true ↔ lo ≤ n ∧ n ≤ hi := by simp [inRange]

theorem inRangeInt_iff (n lo hi : Int) : inRangeInt n lo hi = true ↔ lo ≤ n ∧ n ≤ hi := by simp [inRangeInt]

theorem inRange_eq_decide (n lo hi : Nat) : inRange n lo hi = decide ((lo : Int) ≤ n ∧ (n : Int) ≤ hi) := by
  rw [Bool.eq_iff_iff, inRange_iff, decide_eq_true_iff]
  omega

theorem inRangeInt_eq_decide (n lo hi : Int) : inRangeInt n lo hi = decide (lo ≤ n ∧ n ≤ hi) := by
  rw [Bool.eq_iff_iff, inRangeInt_iff, decide_eq_true_iff]

theorem forall_mem_cavityChecks (r : Recipe) (field : Nat) (ok : Fin 8 → Bool) :
    (∀ c ∈ cavityChecks r field ok, c.2.2 = true) ↔ ∀ j, r.enabled.get j = true → ok j = true := by
  simp [cavityChecks]

theorem forall_mem_zoneChecks (field : Nat) (ok : Fin 12 → Bool) :
    (∀ c ∈ zoneChecks field ok, c.2.2 = true) ↔ ∀ z, ok z = true := by
  simp [zoneChecks]

theorem Recipe.enabledCount_eq (r : Recipe) :
    r.enabledCount = ((List.finRange 8).filter fun j => r.enabled.get j).length := by
  rw [Recipe.enabledCount, Vec.count_eq, List.countP_eq_length_filter]
  rfl

theorem Recipe.one_le_enabledCount_iff (r : Recipe) : 1 ≤ r.enabledCount ↔ ∃ j, r.enabled.get j = true := by
  rw [Recipe.enabledCount_eq, Nat.one_le_iff_ne_zero, Ne, List.length_eq_zero_iff, List.filter_eq_nil_iff]
  simp

theorem Recipe.enabledCount_le (r : Recipe) : r.enabledCount ≤ 8 := by
  rw [Recipe.enabledCount_eq]
  exact (List.length_filter_le _ _).trans (List.length_finRange).le

theorem Recipe.setpointAt_ne_zero_iff (r : Recipe) (zone : Nat) :
    r.setpointAt zone ≠ 0 ↔ ∃ z : Fin 12, z.val = zone ∧ r.setpoint.get z ≠ 0 := by
  unfold Recipe.setpointAt at12
  split
  · next h => exact ⟨fun hz => ⟨⟨zone, h⟩, rfl, hz⟩, fun ⟨z, hz, hs⟩ => by subst hz; exact hs⟩
  · next h => exact ⟨fun hz => absurd rfl hz, fun ⟨z, hz, _⟩ => absurd z.isLt (by omega)⟩

theorem Recipe.firstFailure_eq_none_iff (r : Recipe) :
    r.firstFailure = none ↔ (∀ c ∈ firstPass r, c.2.2 = true) ∧ ∀ c ∈ secondPass r, c.2.2 = true := by
  simp [Recipe.firstFailure]

/-! ### A recipe passes exactly where it is valid (R148) -/

/-- Fields 1 to 12 in their ranges. -/
theorem firstPassZones_iff (r : Recipe) : (∀ c ∈ firstPassZones r, c.2.2 = true) ↔
    r.number ≤ 65535 ∧ (∃ j, r.enabled.get j = true) ∧ (∀ j, r.enabled.get j = true → r.topZone.get j ≤ 11) ∧
    (∀ j, r.enabled.get j = true → r.bottomZone.get j ≤ 11) ∧
    (∀ j, r.enabled.get j = true → -200 ≤ r.offset.get j ∧ r.offset.get j ≤ 200) ∧
    (∀ j, r.enabled.get j = true → r.nominal.get j ≤ 60000) ∧ (∀ j, r.enabled.get j = true → r.tolLow.get j ≤ 60000) ∧
    (∀ j, r.enabled.get j = true → r.tolHigh.get j ≤ 60000) ∧ (∀ z, r.setpoint.get z ≤ 4500) ∧
    (∀ z, r.fallbackDuty.get z ≤ 100) ∧ ∀ z, r.maxDuty.get z ≤ 100 := by
  have hcount : inRange r.enabledCount 1 8 = true ↔ ∃ j, r.enabled.get j = true := by
    rw [inRange_iff, and_iff_left r.enabledCount_le, r.one_le_enabledCount_iff]
  simp only [firstPassZones, List.flatten_cons, List.flatten_nil, List.append_nil, List.forall_mem_append,
    forall_mem_cavityChecks, forall_mem_zoneChecks, List.forall_mem_cons, List.not_mem_nil, false_imp_iff, implies_true,
    fieldCheck, hcount, inRange_iff, inRangeInt_iff, Nat.zero_le, true_and, and_true, and_assoc]

/-- Fields 13 to 33 in their ranges. -/
theorem firstPassRest_iff (r : Recipe) : (∀ c ∈ firstPassRest r, c.2.2 = true) ↔
    r.kp ≤ 255 ∧ r.ki ≤ 255 ∧ r.cutbackBand ≤ 1000 ∧ (-500 ≤ r.base ∧ r.base ≤ 4500) ∧ (10 ≤ r.width ∧ r.width ≤ 500) ∧
    (∀ i, r.rate.get i ≤ 4095) ∧ (1 ≤ r.cureTarget ∧ r.cureTarget ≤ 65535) ∧ (1 ≤ r.targetMin ∧ r.targetMin ≤ 65535) ∧
    (1 ≤ r.targetMax ∧ r.targetMax ≤ 65535) ∧ r.cureAdjust ≤ 1000 ∧ (1 ≤ r.maxCure ∧ r.maxCure ≤ 65535) ∧
    (-700 ≤ r.scorchTemp ∧ r.scorchTemp ≤ 4700) ∧ r.scorchAllowance ≤ 65535 ∧ r.blindAllowance ≤ 65535 ∧
    (1 ≤ r.traceInterval ∧ r.traceInterval ≤ 60) ∧ (1 ≤ r.maxAttempts ∧ r.maxAttempts ≤ 7) ∧ r.overrideAllowed ≤ 1 ∧
    (1 ≤ r.settleBand ∧ r.settleBand ≤ 1000) ∧ (1 ≤ r.settleCount ∧ r.settleCount ≤ 14) ∧
    (100 ≤ r.settleTimeout ∧ r.settleTimeout ≤ 10000) ∧ (1 ≤ r.demouldLimit ∧ r.demouldLimit ≤ 65535) := by
  have hrate : (∀ c ∈ (List.finRange 16).map fun i => ((18, i.val, inRange (r.rate.get i) 0 4095) : FieldCheck),
      c.2.2 = true) ↔ ∀ i, r.rate.get i ≤ 4095 := by simp [inRange_iff]
  simp only [firstPassRest, List.flatten_cons, List.flatten_nil, List.append_nil, List.forall_mem_append, hrate,
    List.forall_mem_cons, List.not_mem_nil, false_imp_iff, implies_true, fieldCheck, inRange_iff, inRangeInt_iff,
    Nat.zero_le, true_and, and_true, and_assoc]

/-- The cross-field checks. -/
theorem secondPass_iff (r : Recipe) : (∀ c ∈ secondPass r, c.2.2 = true) ↔
    (∀ j, r.enabled.get j = true → r.bottomZone.get j ≠ r.topZone.get j) ∧
    (∀ j, r.enabled.get j = true → r.setpointAt (r.topZone.get j) ≠ 0 ∧ r.setpointAt (r.bottomZone.get j) ≠ 0) ∧
    (∀ z, r.fallbackDuty.get z ≤ r.maxDuty.get z) ∧ r.targetMin ≤ r.cureTarget ∧ r.cureTarget ≤ r.targetMax := by
  have hheated : (∀ c ∈ ((List.finRange 8).filter fun k => r.enabled.get k).flatMap (fun k =>
        [((10, r.topZone.get k, r.setpointAt (r.topZone.get k) != 0) : FieldCheck),
         (10, r.bottomZone.get k, r.setpointAt (r.bottomZone.get k) != 0)]), c.2.2 = true) ↔
      ∀ j, r.enabled.get j = true → r.setpointAt (r.topZone.get j) ≠ 0 ∧ r.setpointAt (r.bottomZone.get j) ≠ 0 := by
    simp only [List.forall_mem_flatMap, List.mem_filter, List.mem_finRange, true_and, List.forall_mem_cons,
      List.not_mem_nil, false_imp_iff, implies_true, and_true, bne_iff_ne]
  simp only [secondPass, List.forall_mem_append, forall_mem_cavityChecks, forall_mem_zoneChecks, hheated, bne_iff_ne,
    decide_eq_true_eq, List.forall_mem_singleton, Bool.and_eq_true, and_assoc]

/-- An enabled cavity's two zones have setpoints, by number or by zone. -/
theorem Recipe.heated_iff {r : Recipe} {j : Fin 8} (top : r.topZone.get j ≤ 11) (bottom : r.bottomZone.get j ≤ 11) :
    (r.setpointAt (r.topZone.get j) ≠ 0 ∧ r.setpointAt (r.bottomZone.get j) ≠ 0) ↔
      ∀ z : Fin 12, r.topZone.get j = z.val ∨ r.bottomZone.get j = z.val → r.setpoint.get z ≠ 0 := by
  rw [Recipe.setpointAt_ne_zero_iff, Recipe.setpointAt_ne_zero_iff]
  constructor
  · rintro ⟨⟨a, ha, hsa⟩, b, hb, hsb⟩ z (hz | hz)
    · rwa [Fin.ext (hz.symm.trans ha.symm)]
    · rwa [Fin.ext (hz.symm.trans hb.symm)]
  · exact fun h => ⟨⟨⟨_, Nat.lt_succ_of_le top⟩, rfl, h _ (.inl rfl)⟩, ⟨_, Nat.lt_succ_of_le bottom⟩, rfl, h _ (.inr rfl)⟩

theorem Recipe.firstFailure_eq_none_iff_valid (r : Recipe) : r.firstFailure = none ↔ r.Valid := by
  rw [Recipe.firstFailure_eq_none_iff, firstPass, List.forall_mem_append, firstPassZones_iff, firstPassRest_iff,
    secondPass_iff]
  constructor
  · rintro ⟨⟨⟨number, enabled, top, bottom, offset, nominal, tolLow, tolHigh, setpoint, fallbackDuty, maxDuty⟩, kp, ki,
      cutback, base, width, rate, cureTarget, targetMin, targetMax, adjust, maxCure, scorch, scorchAllow, blindAllow, trace,
      attempts, override, band, count, timeout, demould⟩, twoZones, heated, fallback, target⟩
    exact ⟨number, enabled, top, bottom, offset, nominal, tolLow, tolHigh, setpoint, fallbackDuty, maxDuty, ⟨kp, ki⟩,
      cutback, base, width, rate, cureTarget, targetMin, targetMax, adjust, maxCure, scorch, scorchAllow, blindAllow, trace,
      attempts, override, band, count, timeout, demould, twoZones,
      fun j z he => (Recipe.heated_iff (top j he) (bottom j he)).1 (heated j he) z, fallback, target⟩
  · intro v
    exact ⟨⟨⟨v.number, v.enabled, v.topZone, v.bottomZone, v.offset, v.nominal, v.tolLow, v.tolHigh, v.setpoint,
      v.fallbackDuty, v.maxDuty⟩, v.gains.1, v.gains.2, v.cutbackBand, v.base, v.width, v.rate, v.cureTarget, v.targetMin,
      v.targetMax, v.cureAdjust, v.maxCure, v.scorchTemp, v.scorchAllowance, v.blindAllowance, v.traceInterval,
      v.maxAttempts, v.overrideAllowed, v.settleBand, v.settleCount, v.settleTimeout, v.demouldLimit⟩, v.twoZones,
      fun j he => (Recipe.heated_iff (v.topZone j he) (v.bottomZone j he)).2 fun z => v.heated j z he, v.fallback,
      v.target⟩

/-! ### The first failing check (R148) -/

theorem Recipe.firstFailure_eq_some_iff (r : Recipe) (field index : Nat) :
    r.firstFailure = some (field, index) ↔ ∃ before after, firstPass r ++ secondPass r =
      before ++ (field, index, false) :: after ∧ ∀ c ∈ before, c.2.2 = true := by
  simp only [Recipe.firstFailure, Option.map_eq_some_iff, List.find?_eq_some_iff_append, Bool.not_eq_true',
    Bool.not_not, Prod.mk.injEq]
  constructor
  · rintro ⟨⟨f, i, ok⟩, ⟨hfail, before, after, hsplit, hbefore⟩, rfl, rfl⟩
    obtain rfl : ok = false := hfail
    exact ⟨before, after, hsplit, hbefore⟩
  · rintro ⟨before, after, hsplit, hbefore⟩
    exact ⟨_, ⟨rfl, before, after, hsplit, hbefore⟩, rfl, rfl⟩

/-! ### The bytes of a recipe (R147) -/

/-- The fields of a recipe as the chunks of bytes that carry them, in R147's order. -/
def Recipe.chunks (r : Recipe) : List (List Byte) :=
  let one := fun n : Nat => [BitVec.ofNat 8 n]
  [be2 r.number, r.name.toList, one (setByte r.enabled), r.topZone.toList.flatMap one, r.bottomZone.toList.flatMap one,
    r.offset.toList.flatMap be2Signed, r.nominal.toList.flatMap be2, r.tolLow.toList.flatMap be2,
    r.tolHigh.toList.flatMap be2, r.setpoint.toList.flatMap be2, r.fallbackDuty.toList.flatMap one,
    r.maxDuty.toList.flatMap one, one r.kp, one r.ki, be2 r.cutbackBand, be2Signed r.base, be2 r.width,
    r.rate.toList.flatMap be2, be2 r.cureTarget, be2 r.targetMin, be2 r.targetMax, be2 r.cureAdjust, be2 r.maxCure,
    be2Signed r.scorchTemp, be2 r.scorchAllowance, be2 r.blindAllowance, one r.traceInterval, one r.maxAttempts,
    one r.overrideAllowed, be2 r.settleBand, one r.settleCount, be2 r.settleTimeout, be2 r.demouldLimit]

theorem Recipe.toBytes_eq (r : Recipe) : r.toBytes = r.chunks.flatten := by
  simp only [Recipe.toBytes, Recipe.fields, Recipe.chunks, byteFields, wordFields, List.flatMap_def, List.map_cons, List.map_append,
    List.flatten_append, List.map_map, List.map_nil, List.flatten_cons, List.flatten_nil,
    ReplyField.bytes, List.append_nil, List.append_assoc]
  rfl
/-! ### Reading and writing the bytes are inverse (R147) -/

/-- The `n` bytes of a list from position `i`. -/
def slice (l : List Byte) (i n : Nat) : List Byte := (l.drop i).take n

/-- A list from position `i` cut into chunks of given lengths. -/
def slices (l : List Byte) : Nat → List Nat → List (List Byte)
  | _, [] => []
  | i, n :: ns => slice l i n :: slices l (i + n) ns

theorem slice_append_drop (l : List Byte) (i n : Nat) : slice l i n ++ l.drop (i + n) = l.drop i := by
  rw [slice, ← List.drop_drop, List.take_append_drop]

theorem slice_add (l : List Byte) (i m n : Nat) : slice l i (m + n) = slice l i m ++ slice l (i + m) n := by
  rw [slice, slice, slice, List.take_add, List.drop_drop]

theorem flatten_slices {l : List Byte} {i : Nat} {ns : List Nat} (h : i + ns.sum = l.length) :
    (slices l i ns).flatten = l.drop i := by
  induction ns generalizing i with
  | nil =>
    have : l.length ≤ i := by simp only [List.sum_nil] at h; omega
    rw [slices, List.flatten_nil, List.drop_of_length_le this]
  | cons n ns ih =>
    rw [List.sum_cons, ← Nat.add_assoc] at h
    rw [slices, List.flatten_cons, ih h, slice_append_drop]

/-- The sizes of the 33 fields (R147). -/
def chunkSizes : List Nat :=
  [2, 16, 1, 8, 8, 16, 16, 16, 16, 24, 12, 12, 1, 1, 2, 2, 2, 32, 2, 2, 2, 2, 2, 2, 2, 2, 1, 1, 1, 2, 1, 2, 2]

theorem slice_one {l : List Byte} {i : Nat} (h : i < l.length) : slice l i 1 = [l.getD i 0#8] := by
  rw [slice, List.drop_eq_getElem_cons h, List.getD_eq_getElem _ _ h]
  rfl

theorem slice_two {l : List Byte} {i : Nat} (h : i + 1 < l.length) :
    slice l i 2 = [l.getD i 0#8, l.getD (i + 1) 0#8] := by
  rw [slice_add l i 1 1, slice_one (by omega), slice_one h]
  rfl

theorem byteAt_bytes {l : List Byte} {i : Nat} (h : i < l.length) : [BitVec.ofNat 8 (byteAt l i)] = slice l i 1 := by
  rw [slice_one h, byteAt, BitVec.ofNat_toNat, BitVec.setWidth_eq]

theorem wordAt_bytes {l : List Byte} {i : Nat} (h : i + 1 < l.length) : be2 (wordAt l i) = slice l i 2 := by
  rw [slice_two h, wordAt, be2_read2]

theorem be2Signed_signed16 {n : Nat} (h : n < 65536) : be2Signed (signed16 n) = be2 n := by
  unfold be2Signed signed16
  congr 1
  split <;> omega

theorem signedAt_bytes {l : List Byte} {i : Nat} (h : i + 1 < l.length) : be2Signed (signedAt l i) = slice l i 2 := by
  rw [signedAt, be2Signed_signed16 (wordAt_lt l i), wordAt_bytes h]

/-- A vector whose entries are read from consecutive places of one size is written back to those places. -/
theorem flatMap_slices {α : Type} {l : List Byte} {n : Nat} {f : Fin n → α} {bytes : α → List Byte} {i size : Nat}
    (h : ∀ k : Fin n, bytes (f k) = slice l (i + size * k.val) size) :
    (Vec.ofFn f).toList.flatMap bytes = slice l i (size * n) := by
  rw [Vec.toList_ofFn]
  induction n generalizing i with
  | zero => simp [slice]
  | succ n ih =>
    rw [List.finRange_succ, List.map_cons, List.flatMap_cons, List.map_map, h 0, Nat.mul_succ, Nat.add_comm (size * n),
      slice_add, Fin.val_zero, Nat.mul_zero, Nat.add_zero]
    congr 1
    refine ih (f := f ∘ Fin.succ) fun k => ?_
    rw [Function.comp_apply, h k.succ, Fin.val_succ, Nat.mul_succ, Nat.add_assoc, Nat.add_comm size]

theorem flatMap_bytes {l : List Byte} {n : Nat} {i : Nat} (h : i + n ≤ l.length) :
    (Vec.ofFn fun k : Fin n => byteAt l (i + k.val)).toList.flatMap (fun n => [BitVec.ofNat 8 n]) = slice l i n := by
  have := flatMap_slices (l := l) (n := n) (f := fun k : Fin n => byteAt l (i + k.val)) (i := i) (size := 1)
    (bytes := fun n => [BitVec.ofNat 8 n]) fun k => by rw [byteAt_bytes (by omega), Nat.one_mul]
  rwa [Nat.one_mul] at this

theorem flatMap_words {l : List Byte} {n : Nat} {i : Nat} (h : i + 2 * n ≤ l.length) :
    (Vec.ofFn fun k : Fin n => wordAt l (i + 2 * k.val)).toList.flatMap be2 = slice l i (2 * n) :=
  flatMap_slices fun k => wordAt_bytes (by omega)

theorem flatMap_signeds {l : List Byte} {n : Nat} {i : Nat} (h : i + 2 * n ≤ l.length) :
    (Vec.ofFn fun k : Fin n => signedAt l (i + 2 * k.val)).toList.flatMap be2Signed = slice l i (2 * n) :=
  flatMap_slices fun k => signedAt_bytes (by omega)

/-- The name is the bytes as they stand. -/
theorem name_bytes {l : List Byte} (h : 18 ≤ l.length) :
    (Vec.ofFn fun i : Fin 16 => l.getD (2 + i.val) 0#8).toList = slice l 2 16 := by
  have := flatMap_slices (l := l) (n := 16) (f := fun k : Fin 16 => l.getD (2 + k.val) 0#8) (i := 2) (size := 1)
    (bytes := fun b => [b]) fun k => by rw [slice_one (by omega), Nat.one_mul]
  rwa [List.flatMap_singleton', Nat.one_mul] at this

/-- The byte of a set has the set's bits. -/
theorem setByte_getLsbD (b : Byte) : BitVec.ofNat 8 (setByte (.ofFn fun k => b.getLsbD k.val)) = b := by
  revert b
  decide

theorem Recipe.ofBytes_chunks {l : List Byte} (h : l.length = 213) : (Recipe.ofBytes l).chunks = slices l 0 chunkSizes := by
  have hset : [BitVec.ofNat 8 (setByte (.ofFn fun k => (l.getD 18 0#8).getLsbD k.val))] = slice l 18 1 := by
    rw [setByte_getLsbD, slice_one (by omega)]
  simp (disch := omega) only [Recipe.chunks, Recipe.ofBytes, slices, chunkSizes, hset, name_bytes, byteAt_bytes, wordAt_bytes,
    signedAt_bytes, flatMap_bytes, flatMap_words, flatMap_signeds, Nat.reduceMul, Nat.reduceAdd]

theorem Recipe.toBytes_ofBytes {l : List Byte} (h : l.length = 213) : (Recipe.ofBytes l).toBytes = l := by
  rw [Recipe.toBytes_eq, Recipe.ofBytes_chunks h, flatten_slices (by rw [h]; rfl), List.drop_zero]

theorem be2_length (n : Nat) : (be2 n).length = 2 := rfl

theorem be2Signed_length (z : Int) : (be2Signed z).length = 2 := rfl

theorem length_flatMap_vec {α : Type} {n size : Nat} (v : Vec α n) {bytes : α → List Byte}
    (h : ∀ a, (bytes a).length = size) : (v.toList.flatMap bytes).length = size * n := by
  rw [List.length_flatMap, List.map_congr_left (g := fun _ => size) fun a _ => h a]
  simp [v.size, Nat.mul_comm]

/-- The chunks have the sizes of the fields. -/
theorem Recipe.length_chunks (r : Recipe) : r.chunks.map List.length = chunkSizes := by
  simp only [Recipe.chunks, List.map_cons, List.map_nil, be2_length, be2Signed_length, r.name.size, List.length_singleton,
    length_flatMap_vec _ be2_length, length_flatMap_vec _ be2Signed_length,
    length_flatMap_vec _ (bytes := fun n => [BitVec.ofNat 8 n]) fun _ => List.length_singleton]
  rfl

theorem Recipe.length_toBytes (r : Recipe) : r.toBytes.length = 213 := by
  rw [Recipe.toBytes_eq, List.length_flatten, Recipe.length_chunks]
  rfl

/-- Two vectors whose entries are written alike, in one size, are equal where the entries are told apart by their bytes. -/
theorem vec_eq_of_flatMap_eq {α : Type} {n size : Nat} {v w : Vec α n} {bytes : α → List Byte}
    (hsize : ∀ a, (bytes a).length = size) (inj : ∀ i, bytes (v.get i) = bytes (w.get i) → v.get i = w.get i)
    (h : v.toList.flatMap bytes = w.toList.flatMap bytes) : v = w := by
  have hmap : v.toList.map bytes = w.toList.map bytes := by
    rw [List.eq_iff_flatten_eq]
    refine ⟨by simpa only [List.flatMap_def] using h, ?_⟩
    rw [List.map_map, List.map_map, show List.length ∘ bytes = fun _ => size from funext hsize]
    simp [v.size, w.size]
  refine Vec.ext_get fun i => inj i ?_
  have := congrArg (fun l => l[i.val]?) hmap
  simpa [Vec.get_eq, v.size, w.size] using this

theorem ofNat8_inj {m n : Nat} (hm : m < 256) (hn : n < 256) (h : BitVec.ofNat 8 m = BitVec.ofNat 8 n) : m = n := by
  have := congrArg BitVec.toNat h
  rw [BitVec.toNat_ofNat, BitVec.toNat_ofNat] at this
  omega

theorem be2Signed_inj {y z : Int} (hy : -32768 ≤ y ∧ y < 32768) (hz : -32768 ≤ z ∧ z < 32768)
    (h : be2Signed y = be2Signed z) : y = z := by
  have := (be2_inj (by omega) (by omega)).1 h
  omega

/-- A set of cavities is the bits of a byte. -/
theorem exists_byte_of_set (v : Vec Bool 8) : ∃ b : Byte, v = .ofFn fun k => b.getLsbD k.val :=
  ⟨BitVec.ofFnLE v.get, Vec.ext_get fun k => by simp⟩

/-- The bit of a cavity in the byte of a set. -/
theorem setByte_bit (v : Vec Bool 8) (j : Fin 8) : (BitVec.ofNat 8 (setByte v)).getLsbD j.val = v.get j := by
  obtain ⟨b, rfl⟩ := exists_byte_of_set v
  rw [setByte_getLsbD, Vec.get_ofFn]

theorem signed16_range {n : Nat} (h : n < 65536) : -32768 ≤ signed16 n ∧ signed16 n < 32768 := by
  unfold signed16
  split <;> omega

theorem byteAt_lt (l : List Byte) (i : Nat) : byteAt l i < 256 := (l.getD i 0#8).isLt

/-- What bytes carry fits bytes. -/
theorem Recipe.ofBytes_fits (l : List Byte) : (Recipe.ofBytes l).Fits := by
  have hs : ∀ i, -32768 ≤ signedAt l i ∧ signedAt l i < 32768 := fun i => signed16_range (wordAt_lt l i)
  have hw := wordAt_lt l
  have hb := byteAt_lt l
  constructor
  case topZone => exact fun j => by simpa [Recipe.ofBytes] using hb _
  case bottomZone => exact fun j => by simpa [Recipe.ofBytes] using hb _
  case offset => exact fun j => by simpa [Recipe.ofBytes] using hs _
  case weights => exact fun j => by simpa [Recipe.ofBytes] using ⟨hw _, hw _, hw _⟩
  case zones => exact fun j => by simpa [Recipe.ofBytes] using ⟨hw _, hb _, hb _⟩
  case regulation => exact ⟨hb _, hb _, hw _⟩
  case table => exact ⟨(hs _).1, (hs _).2, hw _, fun i => by simpa [Recipe.ofBytes] using hw _⟩
  case cure => exact ⟨hw _, hw _, hw _, hw _, hw _⟩
  case scorch => exact ⟨(hs _).1, (hs _).2, hw _, hw _⟩
  case charging => exact ⟨hb _, hb _, hb _, hw _⟩
  case timing => exact ⟨hw _, hb _, hw _, hw _⟩

/-- Recipes that fit their bytes are told apart by them. -/
theorem Recipe.toBytes_inj {r q : Recipe} (hr : r.Fits) (hq : q.Fits) (h : r.toBytes = q.toBytes) : r = q := by
  have hchunks : r.chunks = q.chunks := by
    rw [List.eq_iff_flatten_eq, ← Recipe.toBytes_eq, ← Recipe.toBytes_eq, Recipe.length_chunks, Recipe.length_chunks]
    exact ⟨h, rfl⟩
  have bytes {n : Nat} {v w : Vec Nat n} (hv : ∀ i, v.get i < 256) (hw : ∀ i, w.get i < 256)
      (he : v.toList.flatMap (fun n => [BitVec.ofNat 8 n]) = w.toList.flatMap fun n => [BitVec.ofNat 8 n]) : v = w :=
    vec_eq_of_flatMap_eq (fun _ => List.length_singleton) (fun i hi => ofNat8_inj (hv i) (hw i) (List.head_eq_of_cons_eq hi)) he
  have words {n : Nat} {v w : Vec Nat n} (hv : ∀ i, v.get i < 65536) (hw : ∀ i, w.get i < 65536)
      (he : v.toList.flatMap be2 = w.toList.flatMap be2) : v = w :=
    vec_eq_of_flatMap_eq be2_length (fun i => (be2_inj (hv i) (hw i)).1) he
  simp only [Recipe.chunks, List.cons.injEq, and_true] at hchunks
  obtain ⟨number, name, enabled, topZone, bottomZone, offset, nominal, tolLow, tolHigh, setpoint, fallbackDuty, maxDuty, kp,
    ki, cutbackBand, base, width, rate, cureTarget, targetMin, targetMax, cureAdjust, maxCure, scorchTemp, scorchAllowance,
    blindAllowance, traceInterval, maxAttempts, overrideAllowed, settleBand, settleCount, settleTimeout, demouldLimit⟩ :=
    hchunks
  cases r
  cases q
  simp only [Recipe.mk.injEq]
  refine ⟨(be2_inj hr.timing.1 hq.timing.1).1 number, ?_, ?_, bytes hr.topZone hq.topZone topZone,
    bytes hr.bottomZone hq.bottomZone bottomZone,
    vec_eq_of_flatMap_eq be2Signed_length (fun i => be2Signed_inj (hr.offset i) (hq.offset i)) offset,
    words (fun i => (hr.weights i).1) (fun i => (hq.weights i).1) nominal,
    words (fun i => (hr.weights i).2.1) (fun i => (hq.weights i).2.1) tolLow,
    words (fun i => (hr.weights i).2.2) (fun i => (hq.weights i).2.2) tolHigh,
    words (fun i => (hr.zones i).1) (fun i => (hq.zones i).1) setpoint,
    bytes (fun i => (hr.zones i).2.1) (fun i => (hq.zones i).2.1) fallbackDuty,
    bytes (fun i => (hr.zones i).2.2) (fun i => (hq.zones i).2.2) maxDuty,
    ofNat8_inj hr.regulation.1 hq.regulation.1 kp, ofNat8_inj hr.regulation.2.1 hq.regulation.2.1 ki,
    (be2_inj hr.regulation.2.2 hq.regulation.2.2).1 cutbackBand,
    be2Signed_inj ⟨hr.table.1, hr.table.2.1⟩ ⟨hq.table.1, hq.table.2.1⟩ base,
    (be2_inj hr.table.2.2.1 hq.table.2.2.1).1 width, words hr.table.2.2.2 hq.table.2.2.2 rate,
    (be2_inj hr.cure.1 hq.cure.1).1 cureTarget, (be2_inj hr.cure.2.1 hq.cure.2.1).1 targetMin,
    (be2_inj hr.cure.2.2.1 hq.cure.2.2.1).1 targetMax, (be2_inj hr.cure.2.2.2.1 hq.cure.2.2.2.1).1 cureAdjust,
    (be2_inj hr.cure.2.2.2.2 hq.cure.2.2.2.2).1 maxCure,
    be2Signed_inj ⟨hr.scorch.1, hr.scorch.2.1⟩ ⟨hq.scorch.1, hq.scorch.2.1⟩ scorchTemp,
    (be2_inj hr.scorch.2.2.1 hq.scorch.2.2.1).1 scorchAllowance, (be2_inj hr.scorch.2.2.2 hq.scorch.2.2.2).1 blindAllowance,
    ofNat8_inj hr.charging.1 hq.charging.1 traceInterval, ofNat8_inj hr.charging.2.1 hq.charging.2.1 maxAttempts,
    ofNat8_inj hr.charging.2.2.1 hq.charging.2.2.1 overrideAllowed,
    (be2_inj hr.charging.2.2.2 hq.charging.2.2.2).1 settleBand, ofNat8_inj hr.timing.2.1 hq.timing.2.1 settleCount,
    (be2_inj hr.timing.2.2.1 hq.timing.2.2.1).1 settleTimeout, (be2_inj hr.timing.2.2.2 hq.timing.2.2.2).1 demouldLimit⟩
  · exact Vec.ext_get fun i => by simp only [Vec.get_eq]; congr 1
  · refine Vec.ext_get fun j => ?_
    rw [← setByte_bit, ← setByte_bit, enabled]

theorem Recipe.ofBytes_toBytes {r : Recipe} (h : r.Fits) : Recipe.ofBytes r.toBytes = r :=
  Recipe.toBytes_inj (Recipe.ofBytes_fits _) h (Recipe.toBytes_ofBytes r.length_toBytes)

end Sys2Proof.Machine
end

section
open Sys2Proof Sys2Proof.Machine

/-- Settles O57: a recipe is valid exactly where every check passes, the checks are those of the spec in their order, and the
chunks of bytes are those of the fields. -/
theorem validationAcceptsTheRanges : Obligations.ValidationAcceptsTheRanges := by
  refine ⟨Recipe.firstFailure_eq_none_iff_valid, ?checks, fun l => Recipe.toBytes_ofBytes, fun r => Recipe.ofBytes_toBytes,
    fun r => ⟨BitVec.ofNat 8 (setByte r.enabled), setByte_bit r.enabled, r.toBytes_eq⟩⟩
  case checks =>
    intro r field index within enabled whole perCavity perZone heated checks
    rw [Recipe.firstFailure_eq_some_iff]
    have hne : ∀ a b : Nat, (a != b) = decide (a ≠ b) := fun a b => (Bool.eq_iff_iff.2 (by simp))
    have hheated : ∀ zone, ((10, zone, decide (r.setpointAt zone ≠ 0)) : FieldCheck) = heated zone := fun zone => by
      simp only [heated, r.setpointAt_ne_zero_iff]
    have htarget : (decide (r.targetMin ≤ r.cureTarget) && decide (r.cureTarget ≤ r.targetMax)) =
        within r.cureTarget r.targetMin r.targetMax := inRange_eq_decide _ _ _
    have hpasses : firstPass r ++ secondPass r = checks := by
      simp only [firstPass, firstPassZones, firstPassRest, secondPass, cavityChecks, zoneChecks, fieldCheck,
        inRange_eq_decide, inRangeInt_eq_decide, Recipe.enabledCount_eq, hne, hheated, htarget, checks, whole, perCavity,
        perZone, within, enabled, List.flatten_cons, List.flatten_nil, List.append_assoc, List.cons_append, List.nil_append,
        List.append_nil, Nat.cast_ofNat, Nat.cast_zero, Nat.cast_one]
    rw [hpasses]
end

section
/-! The laws of rows, grant, records, reservations and recipe store as one predicate of the components they read, so that an
event that leaves those alone keeps it as it stands. What a single row keeps by itself is `Row.Fits`. -/

namespace Sys2Proof.Machine

/-! ### What a row keeps by itself -/

/-- The sub-states of a cavity slot that a row's state allows (R5, R65, R101, R118). -/
def Cavity.FitsState (c : Cavity) : RowState → Prop
  | .free => True
  | .open_ => c.Unmoulded
  | .charged => c.Unmoulded ∧ c.charge ≠ .awaitCharge
  | .curing => c.Barren ∨ c.Pressed
  | .releasable => (c.Barren ∨ c.Pressed) ∧ c.cure ≠ .curing
  | .opened => c.Barren ∨ c.Demoulding

/-- What stands in a cavity slot exactly with its charge, and exactly while it is QUEUED (R81, R99, R118). -/
structure Cavity.Marked (c : Cavity) : Prop where
  chargeRecord : c.charge = .charged ↔ c.chargeRec ≠ none
  target : c.charge = .charged ↔ c.targetAdj ≠ none
  frozen : c.record = .queued ↔ c.frozen ≠ none

/-- What a row keeps by itself: its condition when FREE, its names, timers and permit, and its cavity slots. -/
structure Row.Fits (r : Row) : Prop where
  freed : r.state = .free → r = Row.freed
  named : r.state ≠ .free → r.recipe ≠ none ∧ ∃ shot, r.shot = some shot ∧ ShotNumber shot
  stepTimer : r.stepTimer ≠ none ↔ r.Pressed
  curing : r.state = .curing → r.rowTimer ≠ none
  stopped : r.state ≠ .curing → r.state ≠ .opened → r.rowTimer = none
  permit : r.permit = true → r.state = .charged
  cavity : ∀ j, (r.cavities.get j).FitsState r.state
  marked : ∀ j, (r.cavities.get j).Marked

/-- The number of cavities of a row that are in the tool (R102). -/
def Row.toolCount (r : Row) : Nat := (List.finRange 8).countP fun j => decide (r.cavities.get j).InTool

/-- A cavity that a run keeps reserved: not VOID or EMPTY, and with a record that is not yet due (R12). -/
abbrev Cavity.Reserved (c : Cavity) : Prop := (c.charge = .awaitCharge ∨ c.charge = .charged) ∧ c.record = .notDue

/-- The number of cavities of a row that are reserved against the run of a slot (R12). -/
def Row.reservedFor (k : Fin 8) (r : Row) : Nat :=
  if r.state ≠ .free ∧ r.recipe = some k then
    (List.finRange 8).countP fun j => decide (r.cavities.get j).Reserved
  else 0

/-- A number of every row, summed over the table. -/
def rowSum (rows : Vec Row 8) (f : Row → Nat) : Nat := ∑ i, f (rows.get i)

/-- The number of rows that are not FREE. -/
def liveIn (rows : Vec Row 8) : Nat := (List.finRange 8).countP fun i => (rows.get i).state != .free

/-! ### What the rows keep together, and with the other components -/

/-- The table: each row by itself, one row to a shot, one recipe slot, one row in the press, ranks without gaps. -/
structure TableOk (rows : Vec Row 8) : Prop where
  fits : ∀ i, (rows.get i).Fits
  oneShot : ∀ i k, (rows.get i).state ≠ .free → (rows.get k).state ≠ .free → (rows.get i).shot = (rows.get k).shot → i = k
  oneRecipe : ∀ i k, (rows.get i).state ≠ .free → (rows.get k).state ≠ .free → (rows.get i).recipe = (rows.get k).recipe
  onePressed : ∀ i k, (rows.get i).Pressed → (rows.get k).Pressed → i = k
  rank : ∀ i, (rows.get i).state ≠ .free → ∃ m, (rows.get i).rank = some m ∧ 1 ≤ m ∧ m ≤ liveIn rows
  oneRank : ∀ i k, (rows.get i).state ≠ .free → (rows.get k).state ≠ .free → (rows.get i).rank = (rows.get k).rank → i = k

/-- The one grant (R106). -/
structure GrantOk (rows : Vec Row 8) (x : Extraction) (pattern : BitVec 16) : Prop where
  held : ∀ g, x.grant = some g → (rows.get g.row).state = .opened ∧ (rows.get g.row).shot = some g.shot ∧
    ((rows.get g.row).cavities.get g.cavity).tool = .granted
  only : ∀ i j, ((rows.get i).cavities.get j).tool = .granted → ∃ shot, x.grant = some ⟨i, shot, j⟩
  permitted : x.grant ≠ none → x.inputs.combination ≠ 0 ∧ pattern.getLsbD x.inputs.combination = true

/-- The record queue, with the number of records in the ring (R118, R126 to R128). -/
structure QueueOk (rows : Vec Row 8) (queue : List (Fin 8 × Fin 8)) (records : Nat) : Prop where
  capacity : records ≤ 64
  full : queue ≠ [] → records = 64
  once : queue.Nodup
  queued : ∀ i j, ((rows.get i).cavities.get j).record = .queued ↔ (i, j) ∈ queue

/-- The reservations (R12). -/
structure ReservedOk (rows : Vec Row 8) (runs : Vec RunEntry 8) : Prop where
  count : ∀ k, (runs.get k).reserved = rowSum rows (Row.reservedFor k)
  within : ∀ k, (runs.get k).mode = .counted → (runs.get k).reserved ≤ (runs.get k).remaining

/-- The recipe store (R145, R147). -/
structure StoreOk (slots : Vec StoreSlot 8) (write : Option WriteInFlight) : Prop where
  valid : ∀ k, (slots.get k).validity = .valid → ∃ r : Recipe, r.Valid ∧
    (slots.get k).image = .written r (Config.recipeCheck r.toBytes)
  written : ∀ k r check, (slots.get k).image = .written r check → r.Valid
  inFlight : ∀ w, write = some w → w.recipe.Valid

/-- The platen has a recipe exactly while it is not OFF, in a VALID slot (R31, R32). -/
structure PlatenOk (slots : Vec StoreSlot 8) (platen : PlatenState) (recipe : Option (Fin 8)) : Prop where
  off : platen = .off ↔ recipe = none
  slot : ∀ k, recipe = some k → (slots.get k).validity = .valid

/-- The slots that the rows name are VALID and not being written (R10, R147). -/
def SlotsOk (rows : Vec Row 8) (slots : Vec StoreSlot 8) (write : Option WriteInFlight) : Prop :=
  ∀ i k, (rows.get i).state ≠ .free → (rows.get i).recipe = some k →
    (slots.get k).validity = .valid ∧ write.map WriteInFlight.slot ≠ some k

/-- All of it, of the components that it reads. -/
structure CoreOk (rows : Vec Row 8) (runs : Vec RunEntry 8) (queue : List (Fin 8 × Fin 8)) (records : Nat)
    (x : Extraction) (pattern : BitVec 16) (slots : Vec StoreSlot 8) (write : Option WriteInFlight)
    (platen : PlatenState) (recipe : Option (Fin 8)) : Prop where
  table : TableOk rows
  grant : GrantOk rows x pattern
  uncleared : x.uncleared = rowSum rows Row.toolCount
  queue : QueueOk rows queue records
  reserved : ReservedOk rows runs
  store : StoreOk slots write
  platen : PlatenOk slots platen recipe
  slots : SlotsOk rows slots write

/-- The laws of rows, grant, records, reservations and recipe store. -/
abbrev State.Core (s : State) : Prop :=
  CoreOk s.rows s.runs s.recordQueue s.ring.length s.extraction s.settings.interlockPattern s.store.slots s.store.write
    s.regulator.platen s.regulator.platenRecipe

/-! ### The laws and the predicate say the same -/

theorem State.inToolCount_eq (s : State) : s.inToolCount = rowSum s.rows Row.toolCount :=
  (Fin.sum_univ_def _).symm

theorem State.reservedCount_eq (s : State) (k : Fin 8) : s.reservedCount k = rowSum s.rows (Row.reservedFor k) :=
  (Fin.sum_univ_def _).symm

/-- What the laws say of a cavity slot is what the row's state allows. -/
theorem State.CavityLaw.fitsState {s : State} (h : s.CavityLaw) (i j : Fin 8) :
    (s.cavity i j).FitsState (s.row i).state := by
  cases hs : (s.row i).state with
  | free => trivial
  | open_ => exact h.unmoulded i (.inl hs) j
  | charged => exact ⟨h.unmoulded i (.inr hs) j, h.charged i hs j⟩
  | curing => exact h.pressed i (.inl hs) j
  | releasable => exact ⟨h.pressed i (.inr hs) j, h.releasable i hs j⟩
  | opened => exact h.opened i hs j

theorem State.Lawful.core {s : State} (h : s.Lawful) : s.Core where
  table := {
    fits := fun i => {
      freed := h.table.freed i
      named := h.table.named i
      stepTimer := h.press.stepTimer i
      curing := h.press.rowTimerCuring i
      stopped := h.press.rowTimerStopped i
      permit := h.press.permit i
      cavity := h.cavities.fitsState i
      marked := fun j => ⟨h.cavities.chargeRecord i j, h.cavities.target i j, h.ring.frozen i j⟩ }
    oneShot := h.table.oneShot
    oneRecipe := h.table.oneRecipe
    onePressed := h.press.onePressed
    rank := h.ranks.range
    oneRank := h.ranks.distinct }
  grant := ⟨h.grant.held, h.grant.only, h.grant.permitted⟩
  uncleared := h.uncleared.trans s.inToolCount_eq
  queue := ⟨h.ring.capacity, h.ring.full, h.ring.once, h.ring.queued⟩
  reserved := ⟨fun k => (h.reserved.count k).trans (s.reservedCount_eq k), h.reserved.within⟩
  store := ⟨h.store.valid, h.store.written, h.store.inFlight⟩
  platen := ⟨h.store.platen, h.store.platenSlot⟩
  slots := h.store.rows

section
variable {s : State} (h : s.Core)
include h

theorem State.Core.tableLaw : s.TableLaw :=
  ⟨fun i => (h.table.fits i).freed, fun i => (h.table.fits i).named, h.table.oneShot, h.table.oneRecipe⟩

theorem State.Core.rankLaw : s.RankLaw := ⟨h.table.rank, h.table.oneRank⟩

theorem State.Core.pressLaw : s.PressLaw :=
  ⟨h.table.onePressed, fun i => (h.table.fits i).stepTimer, fun i => (h.table.fits i).curing,
    fun i => (h.table.fits i).stopped, fun i => (h.table.fits i).permit⟩

/-- A cavity slot of a row fits the row's state, where that is known. -/
theorem State.Core.fitsState {i : Fin 8} {st : RowState} (hs : (s.row i).state = st) (j : Fin 8) :
    (s.cavity i j).FitsState st := hs ▸ (h.table.fits i).cavity j

theorem State.Core.cavityLaw : s.CavityLaw where
  unmoulded := fun _ hs j => hs.elim (fun hs => h.fitsState hs j) fun hs => (h.fitsState hs j).1
  charged := fun _ hs j => (h.fitsState hs j).2
  pressed := fun _ hs j => hs.elim (fun hs => h.fitsState hs j) fun hs => (h.fitsState hs j).1
  releasable := fun _ hs j => (h.fitsState hs j).2
  opened := fun _ hs j => h.fitsState hs j
  chargeRecord := fun i j => ((h.table.fits i).marked j).chargeRecord
  target := fun i j => ((h.table.fits i).marked j).target

theorem State.Core.grantLaw : s.GrantLaw := ⟨h.grant.held, h.grant.only, h.grant.permitted⟩

theorem State.Core.unclearedLaw : s.UnclearedLaw := h.uncleared.trans s.inToolCount_eq.symm

theorem State.Core.ringLaw : s.RingLaw :=
  ⟨h.queue.capacity, h.queue.full, h.queue.once, h.queue.queued, fun i j => ((h.table.fits i).marked j).frozen⟩

theorem State.Core.reservedLaw : s.ReservedLaw :=
  ⟨fun k => (h.reserved.count k).trans (s.reservedCount_eq k).symm, h.reserved.within⟩

theorem State.Core.storeLaw : s.StoreLaw :=
  ⟨h.store.valid, h.store.written, h.store.inFlight, h.slots, h.platen.off, h.platen.slot⟩

end

/-! ### Sums and counts of which one term changes -/

/-- A sum over the rows after one row is replaced. -/
theorem rowSum_set (rows : Vec Row 8) (i : Fin 8) (r : Row) (f : Row → Nat) :
    rowSum (rows.set i r) f + f (rows.get i) = rowSum rows f + f r := by
  unfold rowSum
  rw [← Finset.add_sum_erase _ _ (Finset.mem_univ i), ← Finset.add_sum_erase _ (fun k => f (rows.get k)) (Finset.mem_univ i),
    Vec.get_set_self, Finset.sum_congr rfl fun k hk => by rw [Vec.get_set_ne _ _ (Finset.ne_of_mem_erase hk).symm]]
  omega

theorem rowSum_congr {rows rows' : Vec Row 8} {f : Row → Nat} (h : ∀ i, f (rows'.get i) = f (rows.get i)) :
    rowSum rows' f = rowSum rows f := Finset.sum_congr rfl fun i _ => h i

theorem rowSum_eq_zero {rows : Vec Row 8} {f : Row → Nat} (h : ∀ i, f (rows.get i) = 0) : rowSum rows f = 0 :=
  Finset.sum_eq_zero fun i _ => h i

/-- A count as a sum. -/
theorem countP_finRange_eq_sum {n : Nat} (p : Fin n → Bool) : (List.finRange n).countP p = ∑ i, (p i).toNat := by
  rw [Fin.sum_univ_def]
  induction List.finRange n with
  | nil => rfl
  | cons x xs ih => rw [List.countP_cons, ih, List.map_cons, List.sum_cons]; cases p x <;> simp [Nat.add_comm]

/-- A count over the indices after one of them is changed. -/
theorem countP_finRange_change {n : Nat} {p q : Fin n → Bool} (i : Fin n) (h : ∀ k, k ≠ i → q k = p k) :
    (List.finRange n).countP q + (p i).toNat = (List.finRange n).countP p + (q i).toNat := by
  rw [countP_finRange_eq_sum, countP_finRange_eq_sum, ← Finset.add_sum_erase _ _ (Finset.mem_univ i),
    ← Finset.add_sum_erase _ (fun k => (p k).toNat) (Finset.mem_univ i),
    Finset.sum_congr rfl fun k hk => by rw [h k (Finset.ne_of_mem_erase hk)]]
  omega

theorem countP_finRange_congr {n : Nat} {p q : Fin n → Bool} (h : ∀ k, q k = p k) :
    (List.finRange n).countP q = (List.finRange n).countP p := by rw [funext h]

end Sys2Proof.Machine
end

section
/-! Rows that keep what the table, the grant, the queue, the reservations and the store read of them: such rows take the place
of the old ones without any other component noticing. Then the operations on rows that are of this kind. -/

namespace Sys2Proof.Machine

/-! ### Rows alike -/

/-- A row that is live, named and ranked as another, and OPENED where that is. -/
structure Row.SameKey (r q : Row) : Prop where
  free : q.state = .free ↔ r.state = .free
  shot : q.shot = r.shot
  recipe : q.recipe = r.recipe
  rank : q.rank = r.rank
  opened : r.state = .opened → q.state = .opened

/-- A cavity slot with the charge, the tool status and the record of another. -/
structure Cavity.Alike (c d : Cavity) : Prop where
  charge : d.charge = c.charge
  chargeRec : d.chargeRec = c.chargeRec
  targetAdj : d.targetAdj = c.targetAdj
  tool : d.tool = c.tool
  record : d.record = c.record
  frozen : d.frozen = c.frozen

/-- A row that is in the press only where another is, and agrees with it in tool statuses, record statuses and reserved
cavities. -/
structure Row.Kept (r q : Row) : Prop extends r.SameKey q where
  pressed : q.Pressed → r.Pressed
  tool : ∀ j, (q.cavities.get j).tool = (r.cavities.get j).tool
  record : ∀ j, (q.cavities.get j).record = (r.cavities.get j).record
  reserved : ∀ j, (q.cavities.get j).Reserved ↔ (r.cavities.get j).Reserved

theorem Row.SameKey.refl (r : Row) : r.SameKey r := ⟨.rfl, rfl, rfl, rfl, id⟩

theorem Row.Kept.refl (r : Row) : r.Kept r := ⟨.refl r, id, fun _ => rfl, fun _ => rfl, fun _ => .rfl⟩

theorem Cavity.Alike.refl (c : Cavity) : c.Alike c := ⟨rfl, rfl, rfl, rfl, rfl, rfl⟩

theorem Cavity.Alike.trans {c d e : Cavity} (h : c.Alike d) (h' : d.Alike e) : c.Alike e :=
  ⟨h'.charge.trans h.charge, h'.chargeRec.trans h.chargeRec, h'.targetAdj.trans h.targetAdj, h'.tool.trans h.tool,
    h'.record.trans h.record, h'.frozen.trans h.frozen⟩

theorem Row.Kept.of_alike {r q : Row} (key : r.SameKey q) (pressed : q.Pressed → r.Pressed)
    (alike : ∀ j, (r.cavities.get j).Alike (q.cavities.get j)) : r.Kept q where
  toSameKey := key
  pressed := pressed
  tool := fun j => (alike j).tool
  record := fun j => (alike j).record
  reserved := fun j => by simp only [Cavity.Reserved, (alike j).charge, (alike j).record]

/-- Every row at its place is kept where one row is replaced by a kept one. -/
theorem Row.Kept.set {rows : Vec Row 8} {i : Fin 8} {r : Row} (h : (rows.get i).Kept r) (m : Fin 8) :
    (rows.get m).Kept ((rows.set i r).get m) := by
  rw [Vec.get_set]
  split
  · next hm => exact hm ▸ h
  · exact .refl _

theorem Row.SameKey.set {rows : Vec Row 8} {i : Fin 8} {r : Row} (h : (rows.get i).SameKey r) (m : Fin 8) :
    (rows.get m).SameKey ((rows.set i r).get m) := by
  rw [Vec.get_set]
  split
  · next hm => exact hm ▸ h
  · exact .refl _

/-! ### The components, with rows replaced by rows alike -/

section
variable {rows rows' : Vec Row 8}

theorem liveIn_congr (key : ∀ i, (rows.get i).SameKey (rows'.get i)) : liveIn rows' = liveIn rows :=
  countP_finRange_congr fun i => by
    rw [Bool.eq_iff_iff, bne_iff_ne, bne_iff_ne, Ne, Ne, (key i).free]

theorem TableOk.of_sameKey (h : TableOk rows) (key : ∀ i, (rows.get i).SameKey (rows'.get i))
    (fits : ∀ i, (rows'.get i).Fits) (press : ∀ i k, (rows'.get i).Pressed → (rows'.get k).Pressed → i = k) :
    TableOk rows' where
  fits := fits
  oneShot := fun i k hi hk => by
    rw [(key i).shot, (key k).shot]
    exact h.oneShot i k (mt (key i).free.2 hi) (mt (key k).free.2 hk)
  oneRecipe := fun i k hi hk => by
    rw [(key i).recipe, (key k).recipe]
    exact h.oneRecipe i k (mt (key i).free.2 hi) (mt (key k).free.2 hk)
  onePressed := press
  rank := fun i hi => by
    rw [(key i).rank, liveIn_congr key]
    exact h.rank i (mt (key i).free.2 hi)
  oneRank := fun i k hi hk => by
    rw [(key i).rank, (key k).rank]
    exact h.oneRank i k (mt (key i).free.2 hi) (mt (key k).free.2 hk)

/-- The grant holds on where the GRANTED cavities are the same, and their rows stay OPENED with their shot. -/
theorem GrantOk.of_tool {x : Extraction} {pattern : BitVec 16} (h : GrantOk rows x pattern)
    (tool : ∀ i j, ((rows'.get i).cavities.get j).tool = .granted ↔ ((rows.get i).cavities.get j).tool = .granted)
    (opened : ∀ i j, ((rows.get i).cavities.get j).tool = .granted → (rows.get i).state = .opened →
      (rows'.get i).state = .opened ∧ (rows'.get i).shot = (rows.get i).shot) : GrantOk rows' x pattern where
  held := fun g hg => by
    obtain ⟨hst, hshot, htool⟩ := h.held g hg
    obtain ⟨hst', hshot'⟩ := opened _ _ htool hst
    exact ⟨hst', hshot'.trans hshot, (tool _ _).2 htool⟩
  only := fun i j hij => h.only i j ((tool i j).1 hij)
  permitted := h.permitted

theorem QueueOk.of_record {queue : List (Fin 8 × Fin 8)} {n : Nat} (h : QueueOk rows queue n)
    (record : ∀ i j, ((rows'.get i).cavities.get j).record = .queued ↔ ((rows.get i).cavities.get j).record = .queued) :
    QueueOk rows' queue n :=
  ⟨h.capacity, h.full, h.once, fun i j => (record i j).trans (h.queued i j)⟩

theorem ReservedOk.congr {runs : Vec RunEntry 8} (h : ReservedOk rows runs)
    (reserved : ∀ k i, (rows'.get i).reservedFor k = (rows.get i).reservedFor k) : ReservedOk rows' runs :=
  ⟨fun k => (h.count k).trans (rowSum_congr (reserved k)).symm, h.within⟩

theorem SlotsOk.of_sameKey {slots : Vec StoreSlot 8} {write : Option WriteInFlight} (h : SlotsOk rows slots write)
    (key : ∀ i, (rows.get i).SameKey (rows'.get i)) : SlotsOk rows' slots write := fun i k hi hk =>
  h i k (mt (key i).free.2 hi) ((key i).recipe ▸ hk)

end

theorem Row.Kept.toolCount {r q : Row} (h : r.Kept q) : q.toolCount = r.toolCount :=
  countP_finRange_congr fun j => by simp only [Cavity.InTool, h.tool j]

theorem Row.Kept.reservedFor {r q : Row} (h : r.Kept q) (k : Fin 8) : q.reservedFor k = r.reservedFor k := by
  simp only [Row.reservedFor, ne_eq, h.free, h.recipe, h.reserved]

/-- Kept rows that fit take the place of the old rows. -/
theorem CoreOk.of_kept {rows rows' : Vec Row 8} {runs : Vec RunEntry 8} {queue : List (Fin 8 × Fin 8)} {n : Nat}
    {x : Extraction} {pattern : BitVec 16} {slots : Vec StoreSlot 8} {write : Option WriteInFlight} {p : PlatenState}
    {recipe : Option (Fin 8)} (h : CoreOk rows runs queue n x pattern slots write p recipe)
    (kept : ∀ i, (rows.get i).Kept (rows'.get i)) (fits : ∀ i, (rows'.get i).Fits) :
    CoreOk rows' runs queue n x pattern slots write p recipe where
  table := h.table.of_sameKey (fun i => (kept i).toSameKey) fits fun i k hi hk =>
    h.table.onePressed i k ((kept i).pressed hi) ((kept k).pressed hk)
  grant := h.grant.of_tool (fun i j => by rw [(kept i).tool]) fun i _ _ hst => ⟨(kept i).opened hst, (kept i).shot⟩
  uncleared := h.uncleared.trans (rowSum_congr fun i => (kept i).toolCount).symm
  queue := h.queue.of_record fun i j => by rw [(kept i).record]
  reserved := h.reserved.congr fun k i => (kept i).reservedFor k
  store := h.store
  platen := h.platen
  slots := h.slots.of_sameKey fun i => (kept i).toSameKey

/-- A kept row that fits takes the place of one row. -/
theorem State.Core.setRow {s : State} (h : s.Core) {i : Fin 8} {r : Row} (kept : (s.row i).Kept r) (fits : r.Fits) :
    (s.setRow i r).Core :=
  CoreOk.of_kept h (Row.Kept.set kept) fun m => by
    rw [State.setRow_rows, Vec.get_set]
    split
    · exact fits
    · exact h.table.fits m

/-! ### A cavity slot under the operations that leave charge, tool and record alone -/

theorem Cavity.Marked.of_alike {c d : Cavity} (h : c.Marked) (a : c.Alike d) : d.Marked :=
  ⟨by rw [a.charge, a.chargeRec]; exact h.chargeRecord, by rw [a.charge, a.targetAdj]; exact h.target,
    by rw [a.record, a.frozen]; exact h.frozen⟩

theorem Cavity.FitsState.of_alike {c d : Cavity} {st : RowState} (h : c.FitsState st) (a : c.Alike d)
    (cure : d.cure = c.cure) (acc : d.acc = c.acc) : d.FitsState st := by
  cases st with
  | free => trivial
  | _ =>
    simpa only [Cavity.FitsState, Cavity.Unmoulded, Cavity.Barren, Cavity.Pressed, Cavity.Demoulding, a.charge, a.tool,
      a.record, cure, acc] using h

/-- In the press a cavity may move on in its cure, from CURING to REACHED or TIMED_OUT. -/
theorem Cavity.pressed_of_alike {c d : Cavity} (h : c.Barren ∨ c.Pressed) (a : c.Alike d)
    (cure : d.cure = c.cure ∨ c.cure = .curing ∧ (d.cure = .reached ∨ d.cure = .timedOut)) : d.Barren ∨ d.Pressed := by
  simp only [Cavity.Barren, Cavity.Pressed, a.charge, a.tool, a.record] at h ⊢
  rcases cure with cure | ⟨hc, hd | hd⟩
  · rw [cure]
    exact h
  all_goals simp_all

theorem Cavity.giveNote_alike (kind : NoteKind) (offset : Nat) (c : Cavity) : c.Alike (c.giveNote kind offset) :=
  ⟨by simp, by simp, by simp, by simp, by simp, by simp⟩

theorem Cavity.giveNote?_alike (kind : Option NoteKind) (offset : Nat) (c : Cavity) :
    c.Alike (c.giveNote? kind offset) := by
  cases kind with
  | none => exact .refl c
  | some kind => exact c.giveNote_alike kind offset

theorem Cavity.giveNote?_cure (kind : Option NoteKind) (offset : Nat) (c : Cavity) :
    (c.giveNote? kind offset).cure = c.cure := by
  cases kind with
  | none => rfl
  | some kind => exact c.giveNote_cure kind offset

theorem Cavity.reachTest_alike (n : Nat) (c : Cavity) : c.Alike (c.reachTest n) := by
  unfold Cavity.reachTest
  split
  · exact ⟨rfl, rfl, rfl, rfl, rfl, rfl⟩
  · exact .refl c

theorem Cavity.reachTest_cure (n : Nat) (c : Cavity) :
    (c.reachTest n).cure = c.cure ∨ c.cure = .curing ∧ (c.reachTest n).cure = .reached := by
  unfold Cavity.reachTest
  split
  · next h => exact .inr ⟨h.1, rfl⟩
  · exact .inl rfl

theorem Cavity.updatePeak_eq (theta : Int) (c : Cavity) :
    c.updatePeak theta = { c with peak := some (c.peak.elim theta fun p => max p theta) } := by
  unfold Cavity.updatePeak
  split
  · next p hp =>
    rw [hp, Option.elim_some]
    split
    · next hlt => rw [max_eq_right hlt.le]
    · next hle => rw [max_eq_left (not_lt.1 hle), ← hp]
  · next hp => rw [hp, Option.elim_none]

theorem Cavity.countScorch_eq (scorchTemp theta : Int) (c : Cavity) :
    c.countScorch scorchTemp theta =
      { c with scorch := if theta > scorchTemp then min (c.scorch + 1) 65535 else c.scorch } := by
  unfold Cavity.countScorch
  split <;> rfl

theorem Cavity.blindTest_alike (n m : Nat) (c : Cavity) : c.Alike ({ c with blind := m }.reachTest n) :=
  .trans (d := { c with blind := m }) ⟨rfl, rfl, rfl, rfl, rfl, rfl⟩ (Cavity.reachTest_alike n _)

/-- What a trace point that is due writes: the trace, the mark and the notes. -/
theorem Cavity.tracePoint_alike (n : Nat) (theta : Int) (c : Cavity) : c.Alike (c.tracePoint n theta) := by
  unfold Cavity.tracePoint
  split_ifs
  · exact ⟨rfl, rfl, rfl, rfl, rfl, rfl⟩
  · exact .refl c
  · exact (c.giveNote_alike .traceTruncated n).trans ⟨rfl, rfl, rfl, rfl, rfl, rfl⟩

theorem Cavity.tracePoint_cure (n : Nat) (theta : Int) (c : Cavity) : (c.tracePoint n theta).cure = c.cure := by
  unfold Cavity.tracePoint
  split_ifs <;> simp

theorem Cavity.heat_alike (factor n : Nat) (theta scorchTemp : Int) (c : Cavity) :
    c.Alike ((((c.accumulate factor).reachTest n).updatePeak theta).countScorch scorchTemp theta) := by
  rw [Cavity.countScorch_eq, Cavity.updatePeak_eq]
  exact Cavity.Alike.trans (d := (c.accumulate factor).reachTest n)
    (.trans (d := c.accumulate factor) ⟨rfl, rfl, rfl, rfl, rfl, rfl⟩ (Cavity.reachTest_alike n _))
    ⟨rfl, rfl, rfl, rfl, rfl, rfl⟩

/-- A cure step keeps charge, tool status and record of a cavity. -/
theorem Cavity.cureStep_alike (r : Recipe) (n : Nat) (offset : Int) (top bottom : Option Int) (c : Cavity) :
    c.Alike (c.cureStep r n offset top bottom) := by
  have hnote := c.giveNote?_alike (temperatureNote top bottom) n
  unfold Cavity.cureStep
  split
  · dsimp only
    split
    · exact hnote.trans (Cavity.blindTest_alike n _ _)
    · split
      · exact hnote.trans ((Cavity.heat_alike _ n _ _ _).trans (Cavity.tracePoint_alike n _ _))
      · exact hnote.trans (Cavity.heat_alike _ n _ _ _)
  · exact .refl c

/-- A cure step leaves the cure status, or moves it from CURING to REACHED. -/
theorem Cavity.cureStep_cure (r : Recipe) (n : Nat) (offset : Int) (top bottom : Option Int) (c : Cavity) :
    (c.cureStep r n offset top bottom).cure = c.cure ∨
      c.cure = .curing ∧ (c.cureStep r n offset top bottom).cure = .reached := by
  have hnote := c.giveNote?_cure (temperatureNote top bottom) n
  unfold Cavity.cureStep
  split
  · dsimp only
    split
    · have := Cavity.reachTest_cure n { c.giveNote? (temperatureNote top bottom) n with
        blind := min ((c.giveNote? (temperatureNote top bottom) n).blind + 1) Config.countMax }
      simpa only [hnote] using this
    · next theta _ =>
      have := Cavity.reachTest_cure n ((c.giveNote? (temperatureNote top bottom) n).accumulate (rateFactor r theta))
      rw [Cavity.countScorch_eq, Cavity.updatePeak_eq]
      split
      · simpa only [Cavity.tracePoint_cure, Cavity.accumulate, hnote] using this
      · simpa only [Cavity.accumulate, hnote] using this
  · exact .inl rfl

theorem Cavity.timeOut_alike (c : Cavity) : c.Alike c.timeOut := by
  unfold Cavity.timeOut
  split
  · exact ⟨rfl, rfl, rfl, rfl, rfl, rfl⟩
  · exact .refl c

theorem Cavity.timeOut_cure (c : Cavity) :
    c.timeOut.cure ≠ .curing ∧ (c.timeOut.cure = c.cure ∨ c.cure = .curing ∧ c.timeOut.cure = .timedOut) := by
  unfold Cavity.timeOut
  split
  · next h => exact ⟨by simp, .inr ⟨h, rfl⟩⟩
  · next h => exact ⟨h, .inl rfl⟩

theorem Cavity.forceOpen_alike (offset : Nat) (c : Cavity) : c.Alike (c.forceOpen offset) := by
  unfold Cavity.forceOpen
  split
  · exact (c.giveNote_alike .forcedOpen offset).trans ⟨rfl, rfl, rfl, rfl, rfl, rfl⟩
  · exact .refl c

theorem Cavity.forceOpen_cure (offset : Nat) (c : Cavity) :
    (c.forceOpen offset).cure = if c.cure = .curing then .forced else c.cure := by
  unfold Cavity.forceOpen
  split <;> rfl

/-! ### Rows that fit -/

theorem Cavity.freed_marked : Cavity.freed.Marked := ⟨by decide, by decide, by decide⟩

theorem Row.freed_fits : Row.freed.Fits where
  freed := fun _ => rfl
  named := fun h => absurd rfl h
  stepTimer := by simp [Row.freed]
  curing := by simp [Row.freed]
  stopped := fun _ _ => rfl
  permit := by simp [Row.freed]
  cavity := fun _ => trivial
  marked := fun j => by
    rw [Row.freed_cavity]
    exact Cavity.freed_marked

/-- The cavities of a live row are replaced by others that fit. -/
theorem Row.Fits.withCavities {r : Row} (h : r.Fits) (live : r.state ≠ .free) {cs : Vec Cavity 8}
    (cavity : ∀ j, (cs.get j).FitsState r.state) (marked : ∀ j, (cs.get j).Marked) :
    ({ r with cavities := cs } : Row).Fits :=
  { h with freed := fun hf => absurd hf live, cavity := cavity, marked := marked }

/-- A cavity of a live row is replaced by one that fits. -/
theorem Row.Fits.modifyCavity {r : Row} (h : r.Fits) (live : r.state ≠ .free) (j : Fin 8) {f : Cavity → Cavity}
    (cavity : (f (r.cavities.get j)).FitsState r.state) (marked : (f (r.cavities.get j)).Marked) :
    (r.modifyCavity j f).Fits := by
  refine h.withCavities live (fun m => ?_) fun m => ?_
  all_goals
    rw [Vec.get_modify]
    split
    · next hm => subst hm; assumption
  · exact h.cavity m
  · exact h.marked m

theorem Row.Fits.clearPermit {r : Row} (h : r.Fits) : r.clearPermit.Fits := by
  unfold Row.clearPermit
  split
  · next hs => exact { h with freed := fun hf => absurd (hs.symm.trans hf) (by decide), permit := by simp }
  · exact h

theorem Row.Kept.clearPermit (r : Row) : r.Kept r.clearPermit := by
  unfold Row.clearPermit
  split
  · exact .of_alike ⟨.rfl, rfl, rfl, rfl, id⟩ id fun _ => .refl _
  · exact .refl r

theorem Row.Fits.tick {r : Row} (h : r.Fits) : r.tick.Fits :=
  { h with
    freed := fun hf => by rw [h.freed hf]; rfl
    stepTimer := by simpa [Row.tick] using h.stepTimer
    curing := fun hs => by simpa [Row.tick] using h.curing hs
    stopped := fun hc ho => by simpa [Row.tick] using h.stopped hc ho }

theorem Row.Kept.tick (r : Row) : r.Kept r.tick := .of_alike ⟨.rfl, rfl, rfl, rfl, id⟩ id fun _ => .refl _

end Sys2Proof.Machine
end

section
/-! The events that replace rows by kept rows: permits, cure steps, releases, time-outs, the opening of the press, notes,
attempts, admissions, ticks, and the moves of the platen. -/

namespace Sys2Proof.Machine

/-! ### Rows of one state or another -/

theorem State.Core.fits {s : State} (h : s.Core) (i : Fin 8) : (s.row i).Fits := h.table.fits i

theorem Row.Pressed.live {r : Row} (h : r.Pressed) : r.state ≠ .free := by rcases h with hs | hs <;> simp [hs]

/-- A cavity slot in the press bears no part from CLOSED on, or is in the tool. -/
theorem Row.Fits.pressed_cavity {r : Row} (h : r.Fits) (pressed : r.Pressed) (j : Fin 8) :
    (r.cavities.get j).Barren ∨ (r.cavities.get j).Pressed := by
  have hfit := h.cavity j
  rcases pressed with hs | hs
  · rw [hs] at hfit
    exact hfit
  · rw [hs] at hfit
    exact hfit.1

/-- A CHARGED row takes the close permit. -/
theorem State.Core.permitted {s : State} (h : s.Core) {i : Fin 8} (charged : (s.row i).state = .charged) :
    (s.setRow i { s.row i with permit := true }).Core :=
  h.setRow (.of_alike ⟨.rfl, rfl, rfl, rfl, id⟩ id fun _ => .refl _)
    { h.fits i with
      freed := fun hf => absurd (charged.symm.trans hf) (by decide)
      permit := fun _ => charged }

/-- A row in OPENED stops its timer. -/
theorem State.Core.windowClosed {s : State} (h : s.Core) {i : Fin 8} (opened : (s.row i).state = .opened) :
    (s.setRow i { s.row i with rowTimer := none }).Core :=
  h.setRow (.of_alike ⟨.rfl, rfl, rfl, rfl, id⟩ id fun _ => .refl _)
    { h.fits i with
      freed := fun hf => absurd (opened.symm.trans hf) (by decide)
      curing := fun hc => absurd (opened.symm.trans hc) (by decide)
      stopped := fun _ _ => rfl }

/-- A row in CURING without a CURING cavity enters RELEASABLE. -/
theorem Row.Fits.release {r : Row} (h : r.Fits) (curing : r.state = .curing)
    (done : ∀ j, (r.cavities.get j).cure ≠ .curing) :
    ({ r with state := .releasable, rowTimer := none } : Row).Fits where
  freed := by simp
  named := fun _ => h.named (by simp [curing])
  stepTimer := by simpa [Row.Pressed, curing] using h.stepTimer
  curing := by simp
  stopped := fun _ _ => rfl
  permit := fun hp => absurd ((h.permit hp).symm.trans curing) (by decide)
  cavity := fun j => ⟨h.pressed_cavity (.inl curing) j, done j⟩
  marked := h.marked

theorem Row.Kept.release {r : Row} (curing : r.state = .curing) :
    r.Kept { r with state := .releasable, rowTimer := none } :=
  .of_alike ⟨by simp [curing], rfl, rfl, rfl, by simp [curing]⟩ (fun _ => .inl curing) fun _ => .refl _

/-- A row in CURING that meets the release condition has no CURING cavity (R6). -/
theorem Row.Fits.not_curing_of_released {r : Row} (h : r.Fits) (curing : r.state = .curing) (released : r.released = true)
    (j : Fin 8) : (r.cavities.get j).cure ≠ .curing := by
  have hfit := h.cavity j
  rw [curing] at hfit
  rcases hfit with hb | hp
  · simp [hb.2.2.1]
  · rcases (Row.released_iff r).1 released j hp.1 with hc | hc <;> simp [hc]

theorem State.Core.released {s : State} (h : s.Core) {i : Fin 8} (curing : (s.row i).state = .curing)
    (released : (s.row i).released = true) : (s.setRow i { s.row i with state := .releasable, rowTimer := none }).Core :=
  h.setRow (.release curing) ((h.fits i).release curing ((h.fits i).not_curing_of_released curing released))

/-- The cavities of a row in the press move on in their cure. -/
theorem Row.Fits.cure {r : Row} (h : r.Fits) (pressed : r.Pressed) {cs : Vec Cavity 8}
    (alike : ∀ j, (r.cavities.get j).Alike (cs.get j))
    (cure : ∀ j, (cs.get j).cure = (r.cavities.get j).cure ∨
      (r.cavities.get j).cure = .curing ∧ ((cs.get j).cure = .reached ∨ (cs.get j).cure = .timedOut)) :
    ({ r with cavities := cs } : Row).Fits := by
  refine h.withCavities pressed.live (fun j => ?_) fun j => (h.marked j).of_alike (alike j)
  have hfit := h.cavity j
  rcases pressed with hs | hs
  · rw [hs] at hfit ⊢
    exact Cavity.pressed_of_alike hfit (alike j) (cure j)
  · rw [hs] at hfit ⊢
    refine ⟨Cavity.pressed_of_alike hfit.1 (alike j) (cure j), ?_⟩
    rcases cure j with hc | hc
    · rw [hc]
      exact hfit.2
    · exact absurd hc.1 hfit.2

/-- MAX_CURE expires on a row in CURING (R8). -/
theorem State.Core.timedOut {s : State} (h : s.Core) {i : Fin 8} (curing : (s.row i).state = .curing) :
    (s.setRow i { (s.row i).mapCavities Cavity.timeOut with state := .releasable, rowTimer := none }).Core := by
  have alike : ∀ j, ((s.row i).cavities.get j).Alike (((s.row i).mapCavities Cavity.timeOut).cavities.get j) := fun j => by
    rw [Row.mapCavities, Vec.get_map]
    exact Cavity.timeOut_alike _
  have fits := (h.fits i).cure (.inl curing) alike fun j => by
    rw [Row.mapCavities, Vec.get_map]
    exact (Cavity.timeOut_cure _).2.imp_right fun hc => ⟨hc.1, .inr hc.2⟩
  refine h.setRow (.of_alike ⟨by simp [curing], rfl, rfl, rfl, by simp [curing]⟩ (fun _ => .inl curing) alike)
    (fits.release curing fun j => ?_)
  rw [Row.mapCavities, Vec.get_map]
  exact (Cavity.timeOut_cure _).1

/-- A cure step of a row whose step timer runs (R9, R66). -/
theorem State.Core.cureStepped {s : State} (h : s.Core) {i : Fin 8} (running : (s.row i).stepTimer ≠ none) :
    (s.setRow i ((s.row i).cureStep (s.rowRecipe i) s.usableReading)).Core := by
  have pressed := (h.fits i).stepTimer.1 running
  have alike : ∀ j, ((s.row i).cavities.get j).Alike
      (((s.row i).cureStep (s.rowRecipe i) s.usableReading).cavities.get j) := fun j => by
    rw [Row.cureStep, Vec.get_mapIdx]
    exact Cavity.cureStep_alike _ _ _ _ _ _
  have fits := (h.fits i).cure pressed alike fun j => by
    rw [Row.cureStep, Vec.get_mapIdx]
    exact (Cavity.cureStep_cure _ _ _ _ _ _).imp_right fun hc => ⟨hc.1, .inl hc.2⟩
  exact h.setRow (.of_alike ⟨.rfl, rfl, rfl, rfl, id⟩ id alike)
    { fits with
      freed := fun hf => absurd hf pressed.live
      stepTimer := ⟨fun _ => pressed, fun _ => nofun⟩ }

/-- A cavity in the press, before and after the press opens on it (R18). -/
theorem Cavity.demoulding_forceOpen {c : Cavity} (h : c.Barren ∨ c.Pressed) (offset : Nat) :
    (c.forceOpen offset).Barren ∨ (c.forceOpen offset).Demoulding := by
  have hcure := c.forceOpen_cure offset
  rcases h with ⟨hawait, hcharged, hnone, htool, hrec⟩ | ⟨hcharged, hnone, hforced, htool, hrec⟩
  · left
    simp [Cavity.Barren, hawait, hcharged, hcure, hnone, htool, hrec]
  · right
    have : (c.forceOpen offset).cure ≠ .none ∧ (c.forceOpen offset).cure ≠ .curing := by
      rw [hcure]
      split <;> simp_all
    simp [Cavity.Demoulding, hcharged, htool, hrec, this]

theorem Row.Fits.openPress {r : Row} (h : r.Fits) (pressed : r.Pressed) (now : Clock) (demouldLimit : Nat) :
    (r.openPress now demouldLimit).Fits where
  freed := nofun
  named := fun _ => h.named pressed.live
  stepTimer := by simp [Row.openPress, Row.Pressed]
  curing := nofun
  stopped := fun _ ho => absurd rfl ho
  permit := fun hp => by
    have := h.permit hp
    rcases pressed with hs | hs <;> simp [this] at hs
  cavity := fun j => by
    rw [Row.openPress_cavity]
    exact Cavity.demoulding_forceOpen (h.pressed_cavity pressed j) _
  marked := fun j => by
    rw [Row.openPress_cavity]
    exact (h.marked j).of_alike (Cavity.forceOpen_alike _ _)

/-- The press opens on its row (R18). -/
theorem State.Core.pressOpened {s : State} (h : s.Core) {i : Fin 8} (pressed : (s.row i).Pressed) :
    (s.setRow i ((s.row i).openPress s.clock (s.rowRecipe i).demouldLimit)).Core :=
  h.setRow (.of_alike ⟨by simp [Row.openPress, pressed.live], rfl, rfl, rfl, fun _ => rfl⟩ (fun _ => pressed) fun j => by
    rw [Row.openPress_cavity]
    exact Cavity.forceOpen_alike _ _) ((h.fits i).openPress pressed _ _)

/-- A cavity of a live row changes in nothing but its notes, attempts or the like. -/
theorem State.Core.modifyCavity_alike {s : State} (h : s.Core) {i : Fin 8} (live : (s.row i).state ≠ .free) (j : Fin 8)
    {f : Cavity → Cavity} (alike : (s.cavity i j).Alike (f (s.cavity i j)))
    (cure : (f (s.cavity i j)).cure = (s.cavity i j).cure) (acc : (f (s.cavity i j)).acc = (s.cavity i j).acc) :
    (s.modifyCavity i j f).Core := by
  have hfits := h.fits i
  refine h.setRow (.of_alike ⟨.rfl, rfl, rfl, rfl, id⟩ id fun m => ?_)
    (hfits.modifyCavity live j ((hfits.cavity j).of_alike alike cure acc) ((hfits.marked j).of_alike alike))
  rw [Row.modifyCavity, Vec.get_modify]
  split
  · next hm => exact hm ▸ alike
  · exact .refl _

/-! ### Admission (R99, R100) -/

theorem Cavity.takeCharge_eq (res : WeighResult) (now : Clock) (target : Nat) (override : Bool) (c : Cavity) :
    ∃ notes dropped record, c.takeCharge res now target override =
      { c with
        charge := .charged
        chargeRec := some record
        targetAdj := some target
        notes := notes
        notesDropped := dropped } := by
  unfold Cavity.takeCharge
  dsimp only
  split
  · rw [Cavity.giveNote_frame]
    exact ⟨_, _, _, rfl⟩
  · exact ⟨c.notes, c.notesDropped, _, rfl⟩

/-- A charge admitted to a cavity that awaits it keeps the cavity reserved and before CLOSED. -/
theorem Row.Fits.takeCharge {r : Row} (h : r.Fits) (opening : r.state = .open_) (j : Fin 8)
    (res : WeighResult) (now : Clock) (target : Nat) (override : Bool) :
    (r.modifyCavity j (Cavity.takeCharge res now target override)).Fits := by
  have hfit := h.cavity j
  obtain ⟨notes, dropped, record, heq⟩ := Cavity.takeCharge_eq res now target override (r.cavities.get j)
  refine h.modifyCavity (by simp [opening]) j ?_ ?_
  · rw [opening] at hfit ⊢
    rw [heq]
    exact ⟨by simp, hfit.2⟩
  · rw [heq]
    exact ⟨by simp, by simp, (h.marked j).frozen⟩

theorem Row.Fits.tryCharged {r : Row} (h : r.Fits) (opening : r.state = .open_) : r.tryCharged.Fits := by
  have hunmoulded : ∀ j, (r.cavities.get j).Unmoulded := fun j => by simpa [opening, Cavity.FitsState] using h.cavity j
  unfold Row.tryCharged
  split
  · next hall =>
    exact {
      freed := by simp
      named := fun _ => h.named (by simp [opening])
      stepTimer := by simpa [Row.Pressed, opening] using h.stepTimer
      curing := by simp
      stopped := fun _ _ => h.stopped (by simp [opening]) (by simp [opening])
      permit := fun _ => rfl
      cavity := fun j => ⟨hunmoulded j, by
        have := (Vec.any_eq_false_iff _ _).1 (Bool.not_eq_true' _ ▸ hall.2) j
        simpa using this⟩
      marked := h.marked }
  · exact h

theorem Row.Kept.takeCharge {r : Row} (opening : r.state = .open_) {j : Fin 8}
    (awaits : (r.cavities.get j).charge = .awaitCharge) (res : WeighResult) (now : Clock) (target : Nat)
    (override : Bool) : r.Kept (r.modifyCavity j (Cavity.takeCharge res now target override)).tryCharged := by
  obtain ⟨notes, dropped, record, heq⟩ := Cavity.takeCharge_eq res now target override (r.cavities.get j)
  have hcavity : ∀ m, ((r.modifyCavity j (Cavity.takeCharge res now target override)).cavities.get m).tool =
        (r.cavities.get m).tool ∧
      ((r.modifyCavity j (Cavity.takeCharge res now target override)).cavities.get m).record = (r.cavities.get m).record ∧
      (((r.modifyCavity j (Cavity.takeCharge res now target override)).cavities.get m).Reserved ↔
        (r.cavities.get m).Reserved) := by
    intro m
    rw [Row.modifyCavity, Vec.get_modify]
    split
    · next hm =>
      subst hm
      rw [heq]
      exact ⟨rfl, rfl, by simp [Cavity.Reserved, awaits]⟩
    · exact ⟨rfl, rfl, .rfl⟩
  rw [Row.tryCharged_of_open (r := r.modifyCavity j _) opening]
  refine ⟨⟨?_, rfl, rfl, rfl, fun ho => absurd (opening.symm.trans ho) (by decide)⟩, ?_, fun m => (hcavity m).1,
    fun m => (hcavity m).2.1, fun m => (hcavity m).2.2⟩
  · dsimp only
    split <;> simp [opening]
  · dsimp only [Row.Pressed]
    split <;> simp

theorem State.Core.admitted {s : State} (h : s.Core) {i j : Fin 8} (opening : (s.row i).state = .open_)
    (awaits : (s.cavity i j).charge = .awaitCharge) (res : WeighResult) (target : Nat) (override : Bool) :
    (s.setRow i ((s.row i).modifyCavity j (Cavity.takeCharge res s.clock target override)).tryCharged).Core :=
  h.setRow (.takeCharge opening awaits _ _ _ _)
    (((h.fits i).takeCharge opening j res s.clock target override).tryCharged opening)

/-! ### The whole table at once -/

/-- A cavity of a FREE row is in the freed condition, so that a change of CURING cavities passes it by. -/
theorem Row.Fits.noteShortfall {r : Row} (h : r.Fits) (now : Clock) (recipe : Recipe) (owed : Nat → Nat) :
    (r.noteShortfall now recipe owed).Fits ∧ r.Kept (r.noteShortfall now recipe owed) := by
  have alike : ∀ j, (r.cavities.get j).Alike ((r.noteShortfall now recipe owed).cavities.get j) := fun j => by
    rw [Row.noteShortfall, Vec.get_mapIdx]
    split
    · exact Cavity.giveNote_alike _ _ _
    · exact .refl _
  refine ⟨?_, .of_alike ⟨.rfl, rfl, rfl, rfl, id⟩ id alike⟩
  by_cases hf : r.state = .free
  · have : r.noteShortfall now recipe owed = r := by
      refine Row.ext_cavities rfl fun j => ?_
      rw [Row.noteShortfall, Vec.get_mapIdx, h.freed hf, Row.freed_cavity]
      rfl
    rwa [this]
  · refine h.withCavities hf (fun j => (h.cavity j).of_alike (alike j) ?_ ?_) fun j => (h.marked j).of_alike (alike j)
    all_goals
      rw [Vec.get_mapIdx]
      split <;> simp

/-- Replacing all the rows by kept rows that fit. -/
theorem State.Core.mapRows {s : State} (h : s.Core) {f : Row → Row} (kept : ∀ r : Row, r.Kept (f r))
    (fits : ∀ r : Row, r.Fits → (f r).Fits) : ({ s with rows := s.rows.map f } : State).Core :=
  CoreOk.of_kept h (fun i => by rw [Vec.get_map]; exact kept _) fun i => by
    rw [Vec.get_map]
    exact fits _ (h.table.fits i)

theorem State.Core.clearPermits {s : State} (h : s.Core) : ({ s with rows := s.rows.map Row.clearPermit } : State).Core :=
  h.mapRows Row.Kept.clearPermit fun _ => Row.Fits.clearPermit

theorem State.Core.rowsTicked {s : State} (h : s.Core) : ({ s with rows := s.rows.map Row.tick } : State).Core :=
  h.mapRows Row.Kept.tick fun _ => Row.Fits.tick

theorem State.Core.closeFrame {s : State} (h : s.Core) : s.closeFrame.Core := by
  unfold State.closeFrame
  split
  · dsimp only
    split
    · have hnote := fun i (owed : Nat → Nat) => (h.fits i).noteShortfall s.clock (s.rowRecipe i) owed
      refine CoreOk.of_kept h (fun i => ?_) fun i => ?_
      all_goals
        simp only [State.shortfallNotes, State.setWarning, Vec.get_mapIdx]
      · exact (hnote i _).2
      · exact (hnote i _).1
    · exact h
  · exact h

/-- The platen enters a state with a recipe that the law of the platen allows, and permits are cleared where it was
READY. -/
theorem State.Core.platenSet {s : State} (h : s.Core) {p : PlatenState} {recipe : Option (Fin 8)}
    (platen : PlatenOk s.store.slots p recipe) : (s.platenMoved p recipe).Core := by
  unfold State.platenMoved
  split
  · exact { h.clearPermits with platen := platen }
  · exact { h with platen := platen }

theorem State.Core.platenMoved {s : State} (h : s.Core) {p : PlatenState} {recipe : Option (Fin 8)} (on : p ≠ .off)
    (valid : recipe = s.regulator.platenRecipe ∧ s.regulator.platen ≠ .off ∨
      ∃ k, recipe = some k ∧ (s.store.slots.get k).validity = .valid) : (s.platenMoved p recipe).Core := by
  refine h.platenSet ?_
  rcases valid with ⟨rfl, hon⟩ | ⟨k, rfl, hv⟩
  · exact ⟨iff_of_false on fun hn => hon (h.platen.off.2 hn), h.platen.slot⟩
  · exact ⟨iff_of_false on (Option.some_ne_none k), fun m hm => Option.some.inj hm ▸ hv⟩

theorem State.Core.enterOff {s : State} (h : s.Core) : s.enterOff.Core := by
  have : (s.platenMoved .off none).Core := h.platenSet ⟨iff_of_true rfl rfl, nofun⟩
  unfold State.enterOff
  rw [State.enterPlaten_eq_platenMoved]
  split <;> exact this

end Sys2Proof.Machine
end

section
/-! The events that take rows out of the table and into it: an opened row, a freed and an aborted row, and the close of the
press; with what they move in the reservations, the uncleared count and the ranks. -/

namespace Sys2Proof.Machine

/-! ### The counts of a row -/

theorem Row.reservedFor_of_ne {r : Row} {k : Fin 8} (h : r.recipe ≠ some k) : r.reservedFor k = 0 :=
  if_neg fun hr => h hr.2

theorem Row.reservedFor_of_live {r : Row} (live : r.state ≠ .free) {k : Fin 8} (h : r.recipe = some k) :
    r.reservedFor k = (List.finRange 8).countP fun j => decide (r.cavities.get j).Reserved := if_pos ⟨live, h⟩

theorem Row.reservedFor_freed (k : Fin 8) : Row.freed.reservedFor k = 0 := if_neg fun h => h.1 rfl

theorem Row.toolCount_eq_zero {r : Row} (h : ∀ j, ¬(r.cavities.get j).InTool) : r.toolCount = 0 :=
  List.countP_eq_zero.2 fun j _ => by simpa using h j

theorem Row.toolCount_freed : Row.freed.toolCount = 0 :=
  Row.toolCount_eq_zero fun j => by rw [Row.freed_cavity]; decide

theorem Row.reservedFor_eq_zero {r : Row} (h : ∀ j, ¬(r.cavities.get j).Reserved) (k : Fin 8) : r.reservedFor k = 0 := by
  unfold Row.reservedFor
  split
  · exact List.countP_eq_zero.2 fun j _ => by simpa using h j
  · rfl

/-- An entry of the run table changes with the cavities reserved against it; the other runs keep theirs. -/
theorem ReservedOk.modify {rows rows' : Vec Row 8} {runs : Vec RunEntry 8} (h : ReservedOk rows runs) {k : Fin 8}
    {f : RunEntry → RunEntry} (count : (f (runs.get k)).reserved = rowSum rows' (Row.reservedFor k))
    (others : ∀ m, m ≠ k → rowSum rows' (Row.reservedFor m) = rowSum rows (Row.reservedFor m))
    (within : (f (runs.get k)).mode = .counted → (f (runs.get k)).reserved ≤ (f (runs.get k)).remaining) :
    ReservedOk rows' (runs.modify k f) where
  count := fun m => by
    rw [Vec.get_modify]
    split
    · next hm => exact hm ▸ count
    · next hm => rw [h.count, others m (Ne.symm hm)]
  within := fun m => by
    rw [Vec.get_modify]
    split
    · next hm => exact hm ▸ within
    · exact h.within m

/-- Reservations are released with the cavities that give them up. -/
theorem ReservedOk.release {rows rows' : Vec Row 8} {runs : Vec RunEntry 8} (h : ReservedOk rows runs) {k : Fin 8} {n : Nat}
    (sum : rowSum rows' (Row.reservedFor k) + n = rowSum rows (Row.reservedFor k))
    (others : ∀ m, m ≠ k → rowSum rows' (Row.reservedFor m) = rowSum rows (Row.reservedFor m)) :
    ReservedOk rows' (runs.modify k fun e => { e with reserved := e.reserved - n }) := by
  have hcount := h.count k
  refine h.modify (by dsimp only; omega) others fun hm => ?_
  have := h.within k hm
  dsimp only
  omega

/-! ### A row leaves the table (R1, R3) -/

/-- The rows after one is freed. -/
def clearedRows (rows : Vec Row 8) (i : Fin 8) : Vec Row 8 :=
  (rows.map (Row.closeRank (rows.get i).rank)).set i Row.freed

theorem clearedRows_self (rows : Vec Row 8) (i : Fin 8) : (clearedRows rows i).get i = Row.freed := Vec.get_set_self _ _ _

theorem clearedRows_ne (rows : Vec Row 8) {i m : Fin 8} (h : m ≠ i) :
    (clearedRows rows i).get m = (rows.get m).closeRank (rows.get i).rank := by
  rw [clearedRows, Vec.get_set_ne _ _ h.symm, Vec.get_map]

theorem Row.closeRank_frame (gone : Option Nat) (r : Row) : r.closeRank gone = { r with rank := (r.closeRank gone).rank } := by
  unfold Row.closeRank
  split <;> [(split <;> rfl); rfl]

theorem Row.Fits.closeRank {r : Row} (h : r.Fits) (gone : Option Nat) : (r.closeRank gone).Fits := by
  by_cases hf : r.state = .free
  · have : r.closeRank gone = r := by
      rw [h.freed hf]
      cases gone <;> rfl
    rwa [this]
  · rw [Row.closeRank_frame]
    exact { h with freed := fun h' => absurd h' hf }

/-- A rank after the row of rank `g` is gone (R3). -/
def rankWithout (g n : Nat) : Nat := if g < n then n - 1 else n

theorem rankWithout_injOn {g m n : Nat} (hm : m ≠ g) (hn : n ≠ g) (h : rankWithout g m = rankWithout g n) : m = n := by
  unfold rankWithout at h
  split_ifs at h <;> omega

section
variable {rows : Vec Row 8} {i : Fin 8}

theorem state_clearedRows {m : Fin 8} (h : m ≠ i) : ((clearedRows rows i).get m).state = (rows.get m).state := by
  rw [clearedRows_ne rows h, Row.closeRank_state]

theorem ne_of_live_clearedRows {m : Fin 8} (h : ((clearedRows rows i).get m).state ≠ .free) : m ≠ i := by
  rintro rfl
  rw [clearedRows_self] at h
  exact h rfl

theorem liveIn_clearedRows (live : (rows.get i).state ≠ .free) : liveIn (clearedRows rows i) + 1 = liveIn rows := by
  have := countP_finRange_change (p := fun m => (rows.get m).state != .free)
    (q := fun m => ((clearedRows rows i).get m).state != .free) i fun m hm => by rw [state_clearedRows hm]
  simpa [clearedRows_self, bne_iff_ne.2 live, liveIn] using this

/-- The table after a live row is freed: the ranks close up. -/
theorem TableOk.cleared (h : TableOk rows) (live : (rows.get i).state ≠ .free) : TableOk (clearedRows rows i) := by
  obtain ⟨g, hg, hg1, hgn⟩ := h.rank i live
  have hcount := liveIn_clearedRows live
  have hget : ∀ m, m ≠ i → (clearedRows rows i).get m =
      { rows.get m with rank := (rows.get m).rank.map (rankWithout g) } := fun m hm => by
    rw [clearedRows_ne rows hm, hg, Row.closeRank_eq]
    rfl
  have hlive : ∀ {m}, m ≠ i → ((clearedRows rows i).get m).state ≠ .free → (rows.get m).state ≠ .free := fun hm hs => by
    rwa [state_clearedRows hm] at hs
  have hrank : ∀ m, m ≠ i → (rows.get m).state ≠ .free → ∃ n, (rows.get m).rank = some n ∧ 1 ≤ n ∧ n ≤ liveIn rows ∧
      n ≠ g := fun m hm hs => by
    obtain ⟨n, hn, hn1, hnl⟩ := h.rank m hs
    exact ⟨n, hn, hn1, hnl, fun he => hm (h.oneRank m i hs live (by rw [hn, hg, he]))⟩
  refine ⟨fun m => ?fits, fun m k hm hk => ?oneShot, fun m k hm hk => ?oneRecipe, fun m k hm hk => ?onePressed,
    fun m hm => ?rank, fun m k hm hk => ?oneRank⟩
  case fits =>
    by_cases hm : m = i
    · rw [hm, clearedRows_self]
      exact Row.freed_fits
    · rw [clearedRows_ne rows hm]
      exact (h.fits m).closeRank _
  case oneShot =>
    have hmi := ne_of_live_clearedRows hm
    have hki := ne_of_live_clearedRows hk
    rw [hget m hmi, hget k hki]
    exact h.oneShot m k (hlive hmi hm) (hlive hki hk)
  case oneRecipe =>
    have hmi := ne_of_live_clearedRows hm
    have hki := ne_of_live_clearedRows hk
    rw [hget m hmi, hget k hki]
    exact h.oneRecipe m k (hlive hmi hm) (hlive hki hk)
  case onePressed =>
    have hmi := ne_of_live_clearedRows hm.live
    have hki := ne_of_live_clearedRows hk.live
    rw [hget m hmi] at hm
    rw [hget k hki] at hk
    exact h.onePressed m k hm hk
  case rank =>
    have hmi := ne_of_live_clearedRows hm
    obtain ⟨n, hn, hn1, hnl, hng⟩ := hrank m hmi (hlive hmi hm)
    refine ⟨rankWithout g n, by rw [hget m hmi, hn, Option.map_some], ?_⟩
    unfold rankWithout
    split <;> omega
  case oneRank =>
    have hmi := ne_of_live_clearedRows hm
    have hki := ne_of_live_clearedRows hk
    obtain ⟨n, hn, -, -, hng⟩ := hrank m hmi (hlive hmi hm)
    obtain ⟨n', hn', -, -, hng'⟩ := hrank k hki (hlive hki hk)
    rw [hget m hmi, hget k hki, hn, hn', Option.map_some, Option.map_some]
    exact fun he => h.oneRank m k (hlive hmi hm) (hlive hki hk)
      (by rw [hn, hn', rankWithout_injOn hng hng' (Option.some.inj he)])

theorem cavities_clearedRows {m : Fin 8} (h : m ≠ i) : ((clearedRows rows i).get m).cavities = (rows.get m).cavities := by
  rw [clearedRows_ne rows h, Row.closeRank_frame]

theorem toolCount_clearedRows {m : Fin 8} (h : m ≠ i) : ((clearedRows rows i).get m).toolCount = (rows.get m).toolCount := by
  simp only [Row.toolCount, cavities_clearedRows h]

theorem reservedFor_clearedRows {m : Fin 8} (h : m ≠ i) (k : Fin 8) :
    ((clearedRows rows i).get m).reservedFor k = (rows.get m).reservedFor k := by
  rw [clearedRows_ne rows h, Row.closeRank_frame]
  rfl

/-- The reservations of the other rows stay as they are, and those of the freed row are gone. -/
theorem rowSum_reservedFor_clearedRows (k : Fin 8) :
    rowSum (clearedRows rows i) (Row.reservedFor k) + (rows.get i).reservedFor k = rowSum rows (Row.reservedFor k) := by
  have hset := rowSum_set (clearedRows rows i) i (rows.get i) (Row.reservedFor k)
  have hsame : rowSum ((clearedRows rows i).set i (rows.get i)) (Row.reservedFor k) = rowSum rows (Row.reservedFor k) :=
    rowSum_congr fun m => by
      rw [Vec.get_set]
      split
      · next hm => rw [hm]
      · next hm => exact reservedFor_clearedRows (Ne.symm hm) k
  rw [clearedRows_self, Row.reservedFor_freed, hsame] at hset
  omega

end

/-- A live row without a cavity in the tool or in the record queue leaves the table; its reservations go with it. -/
theorem State.Core.clearRow {s : State} (h : s.Core) {runs : Vec RunEntry 8} {i : Fin 8} (live : (s.row i).state ≠ .free)
    (tool : ∀ j, ¬(s.cavity i j).InTool) (record : ∀ j, (s.cavity i j).record ≠ .queued)
    (reserved : ReservedOk (clearedRows s.rows i) runs) :
    ({ s.clearRow i with runs := runs } : State).Core where
  table := h.table.cleared live
  grant := h.grant.of_tool (fun m j => by
      change (((clearedRows s.rows i).get m).cavities.get j).tool = _ ↔ _
      by_cases hm : m = i
      · rw [hm, clearedRows_self, Row.freed_cavity]
        exact iff_of_false (by decide) fun hg => tool j (.inr (.inl hg))
      · rw [cavities_clearedRows hm])
    fun m j hg hs => by
      have hm : m ≠ i := fun hm => tool j (.inr (.inl (hm ▸ hg)))
      change ((clearedRows s.rows i).get m).state = _ ∧ ((clearedRows s.rows i).get m).shot = _
      rw [clearedRows_ne s.rows hm, Row.closeRank_frame]
      exact ⟨hs, rfl⟩
  uncleared := h.uncleared.trans (rowSum_congr (rows' := clearedRows s.rows i) fun m => by
    by_cases hm : m = i
    · rw [hm, clearedRows_self, Row.toolCount_freed, Row.toolCount_eq_zero (r := s.rows.get i) tool]
    · exact toolCount_clearedRows hm).symm
  queue := h.queue.of_record fun m j => by
    change (((clearedRows s.rows i).get m).cavities.get j).record = _ ↔ _
    by_cases hm : m = i
    · rw [hm, clearedRows_self, Row.freed_cavity]
      exact iff_of_false (by decide) (record j)
    · rw [cavities_clearedRows hm]
  reserved := reserved
  store := h.store
  platen := h.platen
  slots := fun m k hs hk => by
    change ((clearedRows s.rows i).get m).state ≠ _ at hs
    change ((clearedRows s.rows i).get m).recipe = _ at hk
    have hm := ne_of_live_clearedRows hs
    rw [clearedRows_ne s.rows hm, Row.closeRank_frame] at hk
    exact h.slots m k (by rwa [state_clearedRows hm] at hs) hk

/-- A row that meets the freeing condition is freed (R22): none of its cavities is reserved. -/
theorem State.Core.freed {s : State} (h : s.Core) {i : Fin 8} (freeable : (s.row i).freeable = true) :
    (s.clearRow i).Core := by
  obtain ⟨opened, hcavity⟩ := (Row.freeable_iff _).1 freeable
  have unreserved : ∀ j, ¬(s.cavity i j).Reserved := fun j ⟨hcharge, hrec⟩ => by
    rcases h.fitsState opened j with hb | hd
    · exact hcharge.elim hb.1 hb.2.1
    · rcases (hcavity j).2 with hr | hr
      · exact absurd (hrec.symm.trans hr) (by decide)
      · exact hr.2 hd.1
  refine h.clearRow (by simp [opened]) (fun j => (hcavity j).1) (fun j => ?_) ?_
  · rcases (hcavity j).2 with hr | hr
    · exact hr.trans_ne (by decide)
    · exact hr.1.trans_ne (by decide)
  · exact h.reserved.congr fun k m => by
      by_cases hm : m = i
      · rw [hm, clearedRows_self, Row.reservedFor_freed]
        exact (Row.reservedFor_eq_zero unreserved k).symm
      · exact reservedFor_clearedRows hm k

/-- A cavity slot of a row before CLOSED. -/
theorem Row.Fits.unmoulded {r : Row} (h : r.Fits) (hs : r.state = .open_ ∨ r.state = .charged) (j : Fin 8) :
    (r.cavities.get j).Unmoulded := by
  have hfit := h.cavity j
  rcases hs with hs | hs
  · rw [hs] at hfit
    exact hfit
  · rw [hs] at hfit
    exact hfit.1

theorem State.releaseReserved_some (s : State) (k : Fin 8) (n : Nat) :
    s.releaseReserved (some k) n = { s with runs := s.runs.modify k fun e => { e with reserved := e.reserved - n } } := rfl

/-- An aborted row gives up what it has reserved (R13). -/
theorem State.Core.aborted {s : State} (h : s.Core) {i : Fin 8}
    (unmoulded : (s.row i).state = .open_ ∨ (s.row i).state = .charged) :
    ((s.releaseReserved (s.row i).recipe (s.row i).reservedCavities).clearRow i).Core := by
  have live : (s.row i).state ≠ .free := by rcases unmoulded with hs | hs <;> simp [hs]
  have hcavity := (h.fits i).unmoulded unmoulded
  obtain ⟨k, hk⟩ := Option.ne_none_iff_exists'.1 ((h.fits i).named live).1
  have hreserved : (s.row i).reservedFor k = (s.row i).reservedCavities := by
    rw [Row.reservedFor_of_live live hk, Row.reservedCavities, Vec.count_eq]
    refine (countP_finRange_congr fun j => ?_).symm
    obtain ⟨-, -, -, -, hrec⟩ := hcavity j
    rw [Bool.eq_iff_iff]
    simp [Cavity.Reserved, hrec]
  have hruns : ReservedOk (clearedRows s.rows i)
      (s.runs.modify k fun e => { e with reserved := e.reserved - (s.row i).reservedCavities }) := by
    refine h.reserved.release ?_ fun m hm => ?_
    · rw [← hreserved]
      exact rowSum_reservedFor_clearedRows k
    · have := rowSum_reservedFor_clearedRows (rows := s.rows) (i := i) m
      rwa [Row.reservedFor_of_ne (r := s.rows.get i) fun he => hm (Option.some.inj (he.symm.trans hk))] at this
  rw [hk, State.releaseReserved_some]
  refine h.clearRow live (fun j => ?_) (fun j => ?_) hruns
  · obtain ⟨-, -, -, htool, -⟩ := hcavity j
    have : (s.cavity i j).tool = .notInTool := htool
    simp [Cavity.InTool, this]
  · obtain ⟨-, -, -, -, hrec⟩ := hcavity j
    exact hrec.trans_ne (by decide)

end Sys2Proof.Machine
end

section
/-! A row comes into the table, and the press closes on a row. -/

namespace Sys2Proof.Machine

/-! ### A row is taken (R11) -/

/-- The chosen cavities are no more than the run has room for (R11, step 2). -/
theorem countP_lowestOf_le (v : Vec Bool 8) (n : Nat) : (List.finRange 8).countP (lowestOf v n).get ≤ n := by
  have := countP_first_le v.get (rank := fun j : Fin 8 => j.val) (fun _ _ h => Fin.ext h) n
  refine le_of_eq_of_le (countP_finRange_congr fun j => ?_) this
  simp only [lowestOf, Vec.get_ofFn, Fin.lt_def, Bool.and_comm]

theorem openedRow_cavity (shot : Nat) (k : Fin 8) (rank : Nat) (now : Clock) (chosen : Vec Bool 8) (j : Fin 8) :
    (openedRow shot k rank now chosen).cavities.get j =
      { Cavity.freed with charge := if chosen.get j then .awaitCharge else .empty } := by
  rw [openedRow, Vec.get_map]
  split <;> rfl

theorem openedRow_fits {shot : Nat} (range : ShotNumber shot) (k : Fin 8) (rank : Nat) (now : Clock)
    (chosen : Vec Bool 8) : (openedRow shot k rank now chosen).Fits where
  freed := nofun
  named := fun _ => ⟨nofun, shot, rfl, range⟩
  stepTimer := by simp [openedRow, Row.freed, Row.Pressed]
  curing := nofun
  stopped := fun _ _ => rfl
  permit := nofun
  cavity := fun j => by
    rw [openedRow_cavity]
    refine ⟨?_, rfl, rfl, rfl, rfl⟩
    dsimp only
    split <;> simp
  marked := fun j => by
    rw [openedRow_cavity]
    refine ⟨?_, ?_, Cavity.freed_marked.frozen⟩
    all_goals
      dsimp only [Cavity.freed]
      split <;> simp

theorem toolCount_openedRow (shot : Nat) (k : Fin 8) (rank : Nat) (now : Clock) (chosen : Vec Bool 8) :
    (openedRow shot k rank now chosen).toolCount = 0 :=
  Row.toolCount_eq_zero fun j => by
    rw [openedRow_cavity]
    simp [Cavity.InTool, Cavity.freed]

theorem reservedFor_openedRow (shot : Nat) (k : Fin 8) (rank : Nat) (now : Clock) (chosen : Vec Bool 8) :
    (openedRow shot k rank now chosen).reservedFor k = (List.finRange 8).countP chosen.get := by
  rw [Row.reservedFor_of_live (show RowState.open_ ≠ .free by decide) rfl]
  refine countP_finRange_congr fun j => ?_
  rw [openedRow_cavity, Bool.eq_iff_iff]
  cases chosen.get j <;> simp [Cavity.Reserved, Cavity.freed]

/-- A key that tells live rows apart does so with a further row, whose key none of them has. -/
theorem distinct_set {α : Type} {rows : Vec Row 8} {i : Fin 8} {r : Row} (key : Row → α)
    (h : ∀ m n, (rows.get m).state ≠ .free → (rows.get n).state ≠ .free → key (rows.get m) = key (rows.get n) → m = n)
    (new : ∀ m, (rows.get m).state ≠ .free → key (rows.get m) ≠ key r) (m n : Fin 8)
    (hm : ((rows.set i r).get m).state ≠ .free) (hn : ((rows.set i r).get n).state ≠ .free)
    (he : key ((rows.set i r).get m) = key ((rows.set i r).get n)) : m = n := by
  rw [Vec.get_set] at hm hn
  rw [Vec.get_set, Vec.get_set] at he
  by_cases hmi : i = m
  · by_cases hni : i = n
    · exact hmi.symm.trans hni
    · rw [if_neg hni] at hn
      rw [if_pos hmi, if_neg hni] at he
      exact absurd he.symm (new n hn)
  · rw [if_neg hmi] at hm
    by_cases hni : i = n
    · rw [if_neg hmi, if_pos hni] at he
      exact absurd he (new m hm)
    · rw [if_neg hni] at hn
      rw [if_neg hmi, if_neg hni] at he
      exact h m n hm hn he

/-- The table with a fresh row in the place of a FREE one. -/
theorem TableOk.taken {rows : Vec Row 8} (h : TableOk rows) {i k : Fin 8} {r : Row} {shot : Nat}
    (free : (rows.get i).state = .free) (fits : r.Fits) (state : r.state = .open_) (recipe : r.recipe = some k)
    (named : r.shot = some shot) (rank : r.rank = some (liveIn rows + 1))
    (fresh : ¬∃ m, (rows.get m).state ≠ .free ∧ (rows.get m).shot = some shot)
    (running : ¬∃ m, (rows.get m).state ≠ .free ∧ (rows.get m).recipe ≠ some k) : TableOk (rows.set i r) := by
  have hlive : liveIn (rows.set i r) = liveIn rows + 1 := by
    have := countP_finRange_change (p := fun m => (rows.get m).state != .free)
      (q := fun m => ((rows.set i r).get m).state != .free) i fun m hm => by rw [Vec.get_set_ne _ _ (Ne.symm hm)]
    have hnew : (RowState.open_ != RowState.free).toNat = 1 := by decide
    simpa [Vec.get_set_self, free, state, liveIn, hnew] using this
  have hrecipe : ∀ m, ((rows.set i r).get m).state ≠ .free → ((rows.set i r).get m).recipe = some k := fun m hm => by
    rw [Vec.get_set] at hm ⊢
    split
    · exact recipe
    · next hne =>
      rw [if_neg hne] at hm
      exact not_not.1 fun hk => running ⟨m, hm, hk⟩
  have hrank : ∀ m, (rows.get m).state ≠ .free → (rows.get m).rank ≠ r.rank := fun m hm he => by
    obtain ⟨n, hn, -, hle⟩ := h.rank m hm
    have := Option.some.inj (hn.symm.trans (he.trans rank))
    omega
  refine ⟨fun m => ?fits, distinct_set Row.shot h.oneShot fun m hm he => fresh ⟨m, hm, he.trans named⟩,
    fun m n hm hn => (hrecipe m hm).trans (hrecipe n hn).symm, fun m n hm hn => ?onePressed, fun m hm => ?rank,
    distinct_set Row.rank h.oneRank hrank⟩
  case fits =>
    rw [Vec.get_set]
    split
    · exact fits
    · exact h.fits m
  case rank =>
    rw [hlive]
    rw [Vec.get_set] at hm ⊢
    split
    · exact ⟨_, rank, by omega, le_rfl⟩
    · next hne =>
      rw [if_neg hne] at hm
      obtain ⟨n, hn, hn1, hle⟩ := h.rank m hm
      exact ⟨n, hn, hn1, by omega⟩
  case onePressed =>
    have hnot : ¬r.Pressed := by simp [Row.Pressed, state]
    rw [Vec.get_set] at hm hn
    split at hm
    · exact absurd hm hnot
    · split at hn
      · exact absurd hn hnot
      · exact h.onePressed m n hm hn

/-- An OPEN_CYCLE takes a FREE row and reserves its chosen cavities (R11, R12). -/
theorem State.Core.rowTaken {s : State} (h : s.Core) {i k : Fin 8} {shot : Nat} (free : (s.row i).state = .free)
    (range : ShotNumber shot) (fresh : ¬∃ m, (s.row m).state ≠ .free ∧ (s.row m).shot = some shot)
    (valid : (s.store.slots.get k).validity = .valid) (settled : s.store.write.map WriteInFlight.slot ≠ some k)
    (running : ¬∃ m, (s.row m).state ≠ .free ∧ (s.row m).recipe ≠ some k) : (s.rowTaken i k shot).Core := by
  have hfreed : s.rows.get i = Row.freed := (h.fits i).freed free
  have hcavity : ∀ m j, ((s.rowTaken i k shot).cavity m j).tool = (s.cavity m j).tool ∧
      ((s.rowTaken i k shot).cavity m j).record = (s.cavity m j).record := fun m j => by
    rw [State.cavity, State.row]
    by_cases hm : m = i
    · rw [hm, State.rowTaken_get_self, openedRow_cavity, State.cavity, State.row, hfreed, Row.freed_cavity]
      exact ⟨rfl, rfl⟩
    · rw [State.rowTaken_get_ne s k shot hm]
      exact ⟨rfl, rfl⟩
  have hsum : ∀ f : Row → Nat, f Row.freed = 0 → rowSum (s.rowTaken i k shot).rows f =
      rowSum s.rows f + f (openedRow shot k (s.liveRows + 1) s.clock (s.chosenFor k)) := fun f hf => by
    have := rowSum_set s.rows i (openedRow shot k (s.liveRows + 1) s.clock (s.chosenFor k)) f
    rwa [hfreed, hf] at this
  refine {
    table := h.table.taken free (openedRow_fits range _ _ _ _) rfl rfl rfl rfl fresh running
    grant := h.grant.of_tool (fun m j => by rw [← State.row, ← State.cavity, (hcavity m j).1]; rfl) fun m j hg hs => ?grant
    uncleared := ?uncleared
    queue := h.queue.of_record fun m j => by rw [← State.row, ← State.cavity, (hcavity m j).2]; rfl
    reserved := ?reserved
    store := h.store
    platen := h.platen
    slots := fun m k' hs hk => ?slots }
  case grant =>
    have hm : m ≠ i := by
      rintro rfl
      exact absurd (free.symm.trans hs) (by decide)
    rw [State.rowTaken_get_ne s k shot hm]
    exact ⟨hs, rfl⟩
  case uncleared =>
    rw [hsum _ Row.toolCount_freed, toolCount_openedRow]
    exact h.uncleared
  case reserved =>
    refine h.reserved.modify (k := k) (f := fun e =>
      { e with reserved := e.reserved + (List.finRange 8).countP (s.chosenFor k).get }) ?_ (fun m hm => ?_) fun hmode => ?_
    · rw [hsum _ (Row.reservedFor_freed k), reservedFor_openedRow, ← h.reserved.count k]
    · rw [hsum _ (Row.reservedFor_freed m), Row.reservedFor_of_ne (fun he => hm (Option.some.inj he).symm), Nat.add_zero]
    · have hroom := countP_lowestOf_le (s.recipeAt k).enabled (s.runs.get k).room
      have hwithin := h.reserved.within k hmode
      rw [RunEntry.room, if_pos hmode] at hroom
      dsimp only [State.chosenFor]
      rw [RunEntry.room, if_pos hmode]
      omega
  case slots =>
    by_cases hm : m = i
    · rw [hm, State.rowTaken_get_self] at hk
      obtain rfl := Option.some.inj hk
      exact ⟨valid, settled⟩
    · rw [State.rowTaken_get_ne s k shot hm] at hs hk
      exact h.slots m k' hs hk

/-! ### The press closes on a row (R17) -/

/-- A cavity slot before CLOSED and after it. -/
theorem Cavity.Unmoulded.close {c : Cavity} (h : c.Unmoulded) (permit : Bool) :
    (c.charge = .charged ∧ (c.close permit).Pressed ∨ c.charge ≠ .charged ∧ (c.close permit).Barren) ∧
      (c.close permit).chargeRec = c.chargeRec ∧ (c.close permit).targetAdj = c.targetAdj ∧
      (c.close permit).frozen = c.frozen := by
  obtain ⟨hvoid, hcure, -, htool, hrec⟩ := h
  cases hc : c.charge with
  | charged =>
    rw [Cavity.close_of_charged hc]
    cases permit <;> simp [Cavity.Pressed, hc, hrec]
  | awaitCharge =>
    rw [Cavity.close_of_awaitCharge hc]
    simp [Cavity.Barren, hcure, htool, hrec]
  | empty =>
    rw [Cavity.close_of_noPart (.inl hc)]
    simp [Cavity.Barren, hc, hcure, htool, hrec]
  | void => exact absurd hc hvoid

theorem Row.Fits.close {r : Row} (h : r.Fits) (unmoulded : r.state = .open_ ∨ r.state = .charged) (now : Clock)
    (maxCure : Nat) : (r.close now maxCure).Fits where
  freed := nofun
  named := fun _ => h.named (by rcases unmoulded with hs | hs <;> simp [hs])
  stepTimer := by simp [Row.close, Row.Pressed]
  curing := nofun
  stopped := fun hc => absurd rfl hc
  permit := nofun
  cavity := fun j => by
    rw [Row.close_cavity]
    exact ((h.unmoulded unmoulded j).close r.permit).1.elim (fun hp => .inr hp.2) fun hb => .inl hb.2
  marked := fun j => by
    obtain ⟨hcase, hrec, htarget, hfrozen⟩ := (h.unmoulded unmoulded j).close r.permit
    rw [Row.close_cavity]
    refine ⟨?_, ?_, ?_⟩
    · rw [Cavity.close_charge_iff, hrec]
      exact (h.marked j).chargeRecord
    · rw [Cavity.close_charge_iff, htarget]
      exact (h.marked j).target
    · have hdue : ((r.cavities.get j).close r.permit).record = .notDue :=
        hcase.elim (fun hp => hp.2.2.2.2.2) fun hb => hb.2.2.2.2.2
      have hdue' : (r.cavities.get j).record = .notDue := (h.unmoulded unmoulded j).2.2.2.2
      rw [hfrozen, hdue, ← hdue']
      exact (h.marked j).frozen

end Sys2Proof.Machine
end

section
/-! The close of the press, and the events of a single cavity in a row in OPENED: grant, outcome, clearing, and the record
that leaves the queue. -/

namespace Sys2Proof.Machine

/-! ### The close (R17) -/

/-- After CLOSED the part-bearing cavities are in the tool, and no other. -/
theorem Row.Fits.toolCount_close {r : Row} (h : r.Fits) (unmoulded : r.state = .open_ ∨ r.state = .charged) (now : Clock)
    (maxCure : Nat) : (r.close now maxCure).toolCount = r.cavities.count Cavity.partBearing := by
  rw [Vec.count_eq]
  refine countP_finRange_congr fun j => ?_
  rw [Row.close_cavity, Bool.eq_iff_iff, decide_eq_true_eq]
  rcases ((h.unmoulded unmoulded j).close r.permit).1 with ⟨hc, -, -, -, htool, -⟩ | ⟨hc, -, -, -, htool, -⟩
  · simp [Cavity.InTool, Cavity.partBearing, hc, htool]
  · simp [Cavity.InTool, Cavity.partBearing, hc, htool]

/-- CLOSED gives up the reservations of the cavities that still await their charge (R12, R17 step 2). -/
theorem Row.Fits.reservedFor_close {r : Row} (h : r.Fits) (unmoulded : r.state = .open_ ∨ r.state = .charged) (now : Clock)
    (maxCure : Nat) (k : Fin 8) :
    (r.close now maxCure).reservedFor k +
      (if r.recipe = some k then r.cavities.count fun c => c.charge == .awaitCharge else 0) = r.reservedFor k := by
  have live : r.state ≠ .free := by rcases unmoulded with hs | hs <;> simp [hs]
  by_cases hk : r.recipe = some k
  · rw [Row.reservedFor_of_live live hk, Row.reservedFor_of_live (r := r.close now maxCure) nofun hk, if_pos hk, Vec.count_eq,
      countP_finRange_eq_sum, countP_finRange_eq_sum, countP_finRange_eq_sum, ← Finset.sum_add_distrib]
    refine Finset.sum_congr rfl fun j _ => ?_
    obtain ⟨-, -, -, -, hrec⟩ := h.unmoulded unmoulded j
    rw [Row.close_cavity]
    rcases ((h.unmoulded unmoulded j).close r.permit).1 with ⟨hc, hc', -, -, -, hrec'⟩ | ⟨hc, hwait', hc', -, -, hrec'⟩
    · simp [Cavity.Reserved, hc, hc', hrec, hrec']
    · by_cases hw : (r.cavities.get j).charge = .awaitCharge <;> simp [Cavity.Reserved, hc, hc', hrec, hwait', hw]
  · rw [Row.reservedFor_of_ne hk, Row.reservedFor_of_ne (r := r.close now maxCure) hk, if_neg hk]

/-- The press closes on a row in OPEN or CHARGED while no other row is in it (R14, R17). -/
theorem State.Core.closedOn {s : State} (h : s.Core) {i : Fin 8}
    (unmoulded : (s.row i).state = .open_ ∨ (s.row i).state = .charged) (alone : ∀ m, m ≠ i → ¬(s.row m).Pressed) :
    (s.closedOn i).Core := by
  have live : (s.row i).state ≠ .free := by rcases unmoulded with hs | hs <;> simp [hs]
  have hfits := h.fits i
  obtain ⟨k, hk⟩ := Option.ne_none_iff_exists'.1 (hfits.named live).1
  have hcavity := hfits.unmoulded unmoulded
  let r := (s.row i).close s.clock (s.rowRecipe i).maxCure
  let awaits := (s.row i).cavities.count fun c => c.charge == .awaitCharge
  have htool : (s.row i).toolCount = 0 := Row.toolCount_eq_zero fun j => by
    obtain ⟨-, -, -, htool, -⟩ := hcavity j
    simp [Cavity.InTool, htool]
  have hkey : ∀ m, (s.rows.get m).SameKey ((s.rows.set i r).get m) :=
    Row.SameKey.set ⟨iff_of_false nofun live, rfl, rfl, rfl,
      fun ho => absurd (show (s.row i).state = .opened from ho) (by rcases unmoulded with hs | hs <;> simp [hs])⟩
  have hset : ∀ m, (s.rows.set i r).get m = if i = m then r else s.rows.get m := fun m => Vec.get_set _ _ _ _
  have hclosed : CoreOk (s.rows.set i r) (s.runs.modify k fun e => { e with reserved := e.reserved - awaits }) s.recordQueue
      s.ring.length
      { s.extraction with uncleared := s.extraction.uncleared + (s.row i).cavities.count Cavity.partBearing }
      s.settings.interlockPattern s.store.slots s.store.write s.regulator.platen s.regulator.platenRecipe := by
    refine {
      table := h.table.of_sameKey hkey (fun m => ?fits) fun m n hm hn => ?press
      grant := GrantOk.of_tool (rows := s.rows) ⟨h.grant.held, h.grant.only, h.grant.permitted⟩ (fun m j => ?tool)
        fun m _ _ hs => ⟨(hkey m).opened hs, (hkey m).shot⟩
      uncleared := ?uncleared
      queue := h.queue.of_record fun m j => ?record
      reserved := ?reserved
      store := h.store
      platen := h.platen
      slots := h.slots.of_sameKey hkey }
    case fits =>
      rw [hset]
      split
      · exact hfits.close unmoulded _ _
      · exact h.table.fits m
    case press =>
      have hi : ∀ m, ((s.rows.set i r).get m).Pressed → m = i := fun m hp => by
        by_contra hm
        rw [hset, if_neg (Ne.symm hm)] at hp
        exact alone m hm hp
      exact (hi m hm).trans (hi n hn).symm
    case tool =>
      rw [hset]
      split
      · next hm =>
        subst hm
        rw [Row.close_cavity]
        have hold : ((s.rows.get i).cavities.get j).tool = .notInTool := (hcavity j).2.2.2.1
        rcases ((hcavity j).close (s.row i).permit).1 with ⟨-, -, -, -, hnew, -⟩ | ⟨-, -, -, -, hnew, -⟩
        · simp [hold, hnew]
        · simp [hold, hnew]
      · rfl
    case uncleared =>
      have := rowSum_set s.rows i r Row.toolCount
      rw [show (s.rows.get i).toolCount = 0 from htool, hfits.toolCount_close unmoulded] at this
      have hu := h.uncleared
      dsimp only
      omega
    case record =>
      rw [hset]
      split
      · next hm =>
        subst hm
        rw [Row.close_cavity]
        have hold : ((s.rows.get i).cavities.get j).record = .notDue := (hcavity j).2.2.2.2
        rcases ((hcavity j).close (s.row i).permit).1 with ⟨-, -, -, -, -, hnew⟩ | ⟨-, -, -, -, -, hnew⟩
        · simp [hold, hnew]
        · simp [hold, hnew]
      · rfl
    case reserved =>
      refine h.reserved.release ?_ fun m hm => ?_
      · have hsum := rowSum_set s.rows i r (Row.reservedFor k)
        have hrow := hfits.reservedFor_close unmoulded s.clock (s.rowRecipe i).maxCure k
        rw [if_pos hk] at hrow
        change r.reservedFor k + awaits = _ at hrow
        have hold : (s.rows.get i).reservedFor k = (s.row i).reservedFor k := rfl
        omega
      · have hsum := rowSum_set s.rows i r (Row.reservedFor m)
        have hrow := hfits.reservedFor_close unmoulded s.clock (s.rowRecipe i).maxCure m
        rw [if_neg fun he => hm (Option.some.inj (he.symm.trans hk))] at hrow
        change r.reservedFor m + 0 = _ at hrow
        have hold : (s.rows.get i).reservedFor m = (s.row i).reservedFor m := rfl
        omega
  have hperms := hclosed.of_kept (rows' := (s.rows.set i r).map Row.clearPermit)
    (fun m => by rw [Vec.get_map]; exact .clearPermit _) fun m => by
      rw [Vec.get_map]
      exact (hclosed.table.fits m).clearPermit
  unfold State.closedOn
  rw [hk, State.releaseReserved_some]
  exact hperms

/-! ### One cavity of a row in OPENED -/

/-- The life of a row is OPENED where one of its cavities has left the press's hold. -/
theorem Row.Fits.opened_of_demoulded {r : Row} (h : r.Fits) {j : Fin 8}
    (moved : (r.cavities.get j).record ≠ .notDue ∨
      (r.cavities.get j).tool ≠ .notInTool ∧ (r.cavities.get j).tool ≠ .inTool) :
    r.state = .opened ∧ (r.cavities.get j).Demoulding := by
  have hfit := h.cavity j
  cases hs : r.state with
  | free =>
    rw [h.freed hs, Row.freed_cavity] at moved
    exact absurd moved (by decide)
  | open_ =>
    have := h.unmoulded (.inl hs) j
    simp [this.2.2.2] at moved
  | charged =>
    have := h.unmoulded (.inr hs) j
    simp [this.2.2.2] at moved
  | curing =>
    rcases h.pressed_cavity (.inl hs) j with hb | hp
    · simp [hb.2.2.2] at moved
    · simp [hp.2.2.2] at moved
  | releasable =>
    rcases h.pressed_cavity (.inr hs) j with hb | hp
    · simp [hb.2.2.2] at moved
    · simp [hp.2.2.2] at moved
  | opened =>
    rw [hs] at hfit
    rcases hfit with hb | hd
    · simp [hb.2.2.2] at moved
    · exact ⟨rfl, hd⟩

/-- The number of cavities in the tool after one cavity changes. -/
theorem Row.toolCount_modifyCavity (r : Row) (j : Fin 8) (f : Cavity → Cavity) :
    (r.modifyCavity j f).toolCount + (decide (r.cavities.get j).InTool).toNat =
      r.toolCount + (decide (f (r.cavities.get j)).InTool).toNat := by
  have := countP_finRange_change (p := fun m => decide (r.cavities.get m).InTool)
    (q := fun m => decide ((r.modifyCavity j f).cavities.get m).InTool) j fun m hm => by
      rw [Row.modifyCavity, Vec.get_modify_ne _ _ (Ne.symm hm)]
  rwa [Row.modifyCavity, Vec.get_modify_self] at this

/-- The number of reserved cavities after one cavity changes. -/
theorem Row.reservedFor_modifyCavity {r : Row} (live : r.state ≠ .free) {k : Fin 8} (hk : r.recipe = some k) (j : Fin 8)
    (f : Cavity → Cavity) :
    (r.modifyCavity j f).reservedFor k + (decide (r.cavities.get j).Reserved).toNat =
      r.reservedFor k + (decide (f (r.cavities.get j)).Reserved).toNat := by
  have := countP_finRange_change (p := fun m => decide (r.cavities.get m).Reserved)
    (q := fun m => decide ((r.modifyCavity j f).cavities.get m).Reserved) j fun m hm => by
      rw [Row.modifyCavity, Vec.get_modify_ne _ _ (Ne.symm hm)]
  rw [Row.reservedFor_of_live live hk, Row.reservedFor_of_live (r := r.modifyCavity j f) live hk]
  rw [Row.modifyCavity, Vec.get_modify_self] at this
  exact this

end Sys2Proof.Machine
end

section
/-! The events of one cavity in a row in OPENED: the grant given and ended, a tool outcome with its due record, a clearing,
and the record that leaves the queue for the ring. -/

namespace Sys2Proof.Machine

/-! ### One cavity changed -/

/-- The rows after one cavity is changed. -/
def changedRows (rows : Vec Row 8) (i j : Fin 8) (f : Cavity → Cavity) : Vec Row 8 :=
  rows.set i ((rows.get i).modifyCavity j f)

section
variable {rows : Vec Row 8} {i j : Fin 8} {f : Cavity → Cavity}

theorem changedRows_key (m : Fin 8) : (rows.get m).SameKey ((changedRows rows i j f).get m) :=
  Row.SameKey.set (r := (rows.get i).modifyCavity j f) ⟨.rfl, rfl, rfl, rfl, id⟩ m

theorem changedRows_cavity (m n : Fin 8) : ((changedRows rows i j f).get m).cavities.get n =
    if i = m ∧ j = n then f ((rows.get m).cavities.get n) else (rows.get m).cavities.get n := by
  rw [changedRows, Vec.get_set]
  by_cases hm : i = m
  · subst hm
    rw [if_pos rfl, Row.modifyCavity, Vec.get_modify]
    by_cases hn : j = n
    · subst hn
      simp
    · simp [hn]
  · simp [hm]

/-- The table with a changed cavity of a row in OPENED that still fits. -/
theorem TableOk.changed (h : TableOk rows) (opened : (rows.get i).state = .opened)
    (fits : (f ((rows.get i).cavities.get j)).FitsState .opened) (marked : (f ((rows.get i).cavities.get j)).Marked) :
    TableOk (changedRows rows i j f) := by
  have hstate : ∀ m, ((changedRows rows i j f).get m).state = (rows.get m).state := fun m => by
    rw [changedRows, Vec.get_set]
    split
    · next hm => exact hm ▸ rfl
    · rfl
  refine h.of_sameKey changedRows_key (fun m => ?_) fun m n hm hn => ?_
  · rw [changedRows, Vec.get_set]
    split
    · exact (h.fits i).modifyCavity (by simp [opened]) j (by rwa [opened]) marked
    · exact h.fits m
  · rw [Row.Pressed, hstate] at hm hn
    exact h.onePressed m n hm hn

/-- A change that neither grants a cavity nor ends its grant. -/
theorem GrantOk.changed {x : Extraction} {pattern : BitVec 16} (h : GrantOk rows x pattern)
    (same : (f ((rows.get i).cavities.get j)).tool = .granted ↔ ((rows.get i).cavities.get j).tool = .granted) :
    GrantOk (changedRows rows i j f) x pattern :=
  h.of_tool (fun m n => by
    rw [changedRows_cavity]
    split
    · next hmn =>
      obtain ⟨rfl, rfl⟩ := hmn
      exact same
    · rfl) fun m _ _ hs => ⟨(changedRows_key m).opened hs, (changedRows_key m).shot⟩

/-- The GRANTED cavity loses its grant. -/
theorem GrantOk.ended {x : Extraction} {pattern : BitVec 16} (h : GrantOk rows x pattern)
    (was : ((rows.get i).cavities.get j).tool = .granted) (ended : (f ((rows.get i).cavities.get j)).tool ≠ .granted)
    {y : Extraction} (none : y.grant = none) : GrantOk (changedRows rows i j f) y pattern where
  held := fun g hg => absurd (none.symm.trans hg) (Option.some_ne_none g).symm
  only := fun m n hmn => by
    rw [changedRows_cavity] at hmn
    split at hmn
    · next he =>
      obtain ⟨rfl, rfl⟩ := he
      exact absurd hmn ended
    · next he =>
      obtain ⟨_, hg⟩ := h.only i j was
      obtain ⟨_, hg'⟩ := h.only m n hmn
      have := Option.some.inj (hg.symm.trans hg')
      simp only [Grant.mk.injEq] at this
      exact absurd ⟨this.1, this.2.2⟩ he
  permitted := fun hg => absurd none hg

theorem QueueOk.changed {queue : List (Fin 8 × Fin 8)} {n : Nat} (h : QueueOk rows queue n)
    (same : (f ((rows.get i).cavities.get j)).record = .queued ↔ ((rows.get i).cavities.get j).record = .queued) :
    QueueOk (changedRows rows i j f) queue n :=
  h.of_record fun m l => by
    rw [changedRows_cavity]
    split
    · next hml =>
      obtain ⟨rfl, rfl⟩ := hml
      exact same
    · rfl

theorem rowSum_toolCount_changed : rowSum (changedRows rows i j f) Row.toolCount +
    (decide ((rows.get i).cavities.get j).InTool).toNat =
      rowSum rows Row.toolCount + (decide (f ((rows.get i).cavities.get j)).InTool).toNat := by
  have hsum := rowSum_set rows i ((rows.get i).modifyCavity j f) Row.toolCount
  have hrow := (rows.get i).toolCount_modifyCavity j f
  rw [changedRows]
  omega

theorem rowSum_reservedFor_changed (live : (rows.get i).state ≠ .free) (k : Fin 8) :
    rowSum (changedRows rows i j f) (Row.reservedFor k) +
      (if (rows.get i).recipe = some k then (decide ((rows.get i).cavities.get j).Reserved).toNat else 0) =
      rowSum rows (Row.reservedFor k) +
      (if (rows.get i).recipe = some k then (decide (f ((rows.get i).cavities.get j)).Reserved).toNat else 0) := by
  have hsum := rowSum_set rows i ((rows.get i).modifyCavity j f) (Row.reservedFor k)
  rw [changedRows]
  split
  · next hk =>
    have hrow := Row.reservedFor_modifyCavity live hk j f
    omega
  · next hk =>
    rw [Row.reservedFor_of_ne hk, Row.reservedFor_of_ne (r := (rows.get i).modifyCavity j f) hk] at hsum
    exact hsum

theorem ReservedOk.changed {runs : Vec RunEntry 8} (h : ReservedOk rows runs) (live : (rows.get i).state ≠ .free)
    (same : (f ((rows.get i).cavities.get j)).Reserved ↔ ((rows.get i).cavities.get j).Reserved) :
    ReservedOk (changedRows rows i j f) runs :=
  ⟨fun k => by
    have := rowSum_reservedFor_changed (f := f) (j := j) live k
    rw [decide_eq_decide.2 same] at this
    rw [h.count k]
    omega, h.within⟩

end

/-! ### The grant (R105 to R108) -/

/-- A cavity of a row in OPENED whose record is not due changes in its tool status and notes only, and stays in the tool. -/
theorem State.Core.changeTool {s : State} (h : s.Core) {i j : Fin 8} {f : Cavity → Cavity}
    (opened : (s.row i).state = .opened) (due : (s.cavity i j).record = .notDue)
    (inTool : (s.cavity i j).tool = .inTool ∨ (s.cavity i j).tool = .granted)
    (alike : { s.cavity i j with tool := (f (s.cavity i j)).tool }.Alike (f (s.cavity i j)))
    (cure : (f (s.cavity i j)).cure = (s.cavity i j).cure)
    (tool : (f (s.cavity i j)).tool = .inTool ∨ (f (s.cavity i j)).tool = .granted) {x : Extraction}
    (grant : GrantOk (changedRows s.rows i j f) x s.settings.interlockPattern)
    (count : x.uncleared = s.extraction.uncleared) :
    ({ s.modifyCavity i j f with extraction := x } : State).Core := by
  have hfit := h.fitsState opened j
  have hmarked := (h.fits i).marked j
  have hcharge : (f (s.cavity i j)).charge = (s.cavity i j).charge := alike.charge
  have hrecord : (f (s.cavity i j)).record = (s.cavity i j).record := alike.record
  have hdemoulding : (s.cavity i j).Demoulding := by
    rcases hfit with hb | hd
    · simp [hb.2.2.2.1] at inTool
    · exact hd
  exact {
    table := h.table.changed opened
      (.inr ⟨hcharge.trans hdemoulding.1, cure.trans_ne hdemoulding.2.1, cure.trans_ne hdemoulding.2.2.1,
        tool.elim (fun ht => ht.trans_ne (by decide)) fun ht => ht.trans_ne (by decide), iff_of_true (hrecord.trans due) tool⟩)
      (Cavity.Marked.of_alike (c := { s.cavity i j with tool := (f (s.cavity i j)).tool })
        ⟨hmarked.chargeRecord, hmarked.target, hmarked.frozen⟩ alike)
    grant := grant
    uncleared := by
      have hsum := rowSum_toolCount_changed (rows := s.rows) (i := i) (j := j) (f := f)
      have hwas : (s.cavity i j).InTool := by rcases inTool with ht | ht <;> simp [Cavity.InTool, ht]
      have his : (f (s.cavity i j)).InTool := by rcases tool with ht | ht <;> simp [Cavity.InTool, ht]
      rw [decide_eq_true (p := ((s.rows.get i).cavities.get j).InTool) hwas,
        decide_eq_true (p := (f ((s.rows.get i).cavities.get j)).InTool) his] at hsum
      rw [count, h.uncleared]
      exact (Nat.add_right_cancel hsum).symm
    queue := h.queue.changed (by rw [show (f ((s.rows.get i).cavities.get j)).record = _ from hrecord]; rfl)
    reserved := h.reserved.changed (show (s.row i).state ≠ .free by simp [opened])
      (show (f (s.cavity i j)).Reserved ↔ (s.cavity i j).Reserved by simp only [Cavity.Reserved, hcharge, hrecord])
    store := h.store
    platen := h.platen
    slots := h.slots.of_sameKey changedRows_key }

/-- A cavity in the tool of a row in OPENED has no due record. -/
theorem State.Core.notDue {s : State} (h : s.Core) {i j : Fin 8} (opened : (s.row i).state = .opened)
    (inTool : (s.cavity i j).tool = .inTool ∨ (s.cavity i j).tool = .granted) : (s.cavity i j).record = .notDue := by
  rcases h.fitsState opened j with hb | hd
  · exact hb.2.2.2.2
  · exact hd.2.2.2.2.2 inTool

theorem permitted_iff (pattern : BitVec 16) (n : Nat) :
    permitted pattern n = true ↔ n ≠ 0 ∧ pattern.getLsbD n = true := by simp [permitted]

/-- The grant is given to a cavity that is IN_TOOL (R105). -/
theorem State.Core.granted {s : State} (h : s.Core) {i j : Fin 8} {shot : Nat} (opened : (s.row i).state = .opened)
    (named : (s.row i).shot = some shot) (inTool : (s.cavity i j).tool = .inTool) (none : s.extraction.grant = none)
    (permits : s.permitsDemould = true) :
    ({ s.modifyCavity i j (fun c => { c with tool := .granted }) with
        extraction := { s.extraction with grant := some { row := i, shot := shot, cavity := j } } } : State).Core := by
  refine h.changeTool opened (h.notDue opened (.inl inTool)) (.inl inTool) ⟨rfl, rfl, rfl, rfl, rfl, rfl⟩ rfl
    (.inr rfl) ⟨fun g hg => ?_, fun m n hmn => ?_, fun _ => (permitted_iff _ _).1 permits⟩ rfl
  · obtain rfl := Option.some.inj hg
    exact ⟨(changedRows_key i).opened opened, (changedRows_key i).shot.trans named, by rw [changedRows_cavity]; simp⟩
  · rw [changedRows_cavity] at hmn
    split at hmn
    · next he =>
      obtain ⟨rfl, rfl⟩ := he
      exact ⟨shot, rfl⟩
    · obtain ⟨_, hg⟩ := h.grant.only m n hmn
      exact absurd (none.symm.trans hg) (Option.some_ne_none _).symm

/-- The grant ends without an outcome (R107). -/
theorem State.Core.ungranted {s : State} (h : s.Core) {g : Grant} (held : s.extraction.grant = some g)
    (inputs : Interlocks) (kind : Option NoteKind) (offset : Nat) : (s.ungranted g inputs kind offset).Core := by
  obtain ⟨opened, -, granted⟩ := h.grant.held g held
  have halike := Cavity.giveNote?_alike kind offset { s.cavity g.row g.cavity with tool := .inTool }
  have htool : (({ s.cavity g.row g.cavity with tool := .inTool } : Cavity).giveNote? kind offset).tool = .inTool :=
    halike.tool
  refine h.changeTool (i := g.row) (j := g.cavity) (f := fun c => { c with tool := .inTool }.giveNote? kind offset)
    (x := { s.extraction with grant := none, inputs := inputs }) opened
    (h.notDue (i := g.row) (j := g.cavity) opened (.inr granted)) (.inr granted) ?_
    (Cavity.giveNote?_cure kind offset _) (.inl htool)
    (h.grant.ended granted (htool.trans_ne (by decide)) rfl) rfl
  dsimp only
  rw [htool]
  exact halike

/-- Interlock levels change while no grant is outstanding, or to a permitted combination (R103, R107). -/
theorem State.Core.inputs {s : State} (h : s.Core) (inputs : Interlocks) (none : s.extraction.grant = none ∨
    Machine.permitted s.settings.interlockPattern inputs.combination = true) :
    ({ s with extraction := { s.extraction with inputs := inputs } } : State).Core :=
  { h with grant := ⟨h.grant.held, h.grant.only, fun hg =>
      none.elim (fun hn => absurd hn hg) (permitted_iff _ _).1⟩ }

end Sys2Proof.Machine
end

section
/-! A tool outcome with its due record, a clearing, and the record that leaves the queue; the settings, the run table and the
recipe store; then every event. -/

namespace Sys2Proof.Machine

/-! ### A tool outcome and its due record (R110, R121 to R126) -/

theorem ToolOutcome.status_inTool {o : ToolOutcome} (reported : o ≠ .cleared) (c : Cavity) :
    ({ c with tool := o.status } : Cavity).InTool ↔ o ≠ .removed := by
  cases o <;> simp_all [Cavity.InTool, ToolOutcome.status]

theorem ToolOutcome.status_ne (o : ToolOutcome) : o.status ≠ .notInTool ∧ o.status ≠ .inTool ∧ o.status ≠ .granted := by
  cases o <;> decide

/-- The queue of records after one is placed: in the ring where it has room, else at the end of the queue. -/
theorem QueueOk.placed {rows : Vec Row 8} {queue : List (Fin 8 × Fin 8)} {n : Nat} (h : QueueOk rows queue n) {i j : Fin 8}
    {f : Cavity → Cavity} (due : ((rows.get i).cavities.get j).record = .notDue)
    (record : (f ((rows.get i).cavities.get j)).record = if n < 64 then .recorded else .queued) :
    QueueOk (changedRows rows i j f) (if n < 64 then queue else queue ++ [(i, j)]) (if n < 64 then n + 1 else n) := by
  have hnot : (i, j) ∉ queue := fun hmem => absurd (due.symm.trans ((h.queued i j).2 hmem)) (by decide)
  have hcapacity := h.capacity
  by_cases room : n < 64
  · have hempty : queue = [] := by
      by_contra hne
      have := h.full hne
      omega
    subst hempty
    simp only [if_pos room] at record ⊢
    refine ⟨room, fun hne => absurd rfl hne, .nil, fun m l => ?_⟩
    rw [changedRows_cavity]
    split
    · next he =>
      obtain ⟨rfl, rfl⟩ := he
      simp [record]
    · exact h.queued m l
  · simp only [if_neg room] at record ⊢
    refine ⟨hcapacity, fun _ => by omega, ?_, fun m l => ?_⟩
    · rw [← List.concat_eq_append]
      exact h.once.concat hnot
    · rw [changedRows_cavity, List.mem_append, List.mem_singleton]
      split
      · next he =>
        obtain ⟨rfl, rfl⟩ := he
        simp [record]
      · next he =>
        rw [h.queued m l]
        have : (m, l) ≠ (i, j) := fun hml => he ⟨(Prod.mk.inj hml).1.symm, (Prod.mk.inj hml).2.symm⟩
        simp [this]

/-- The run of a row's recipe after the due record of one of its reserved cavities (R124). -/
theorem ReservedOk.accounted {rows : Vec Row 8} {runs : Vec RunEntry 8} (h : ReservedOk rows runs) {i j k : Fin 8}
    {f : Cavity → Cavity} (live : (rows.get i).state ≠ .free) (recipe : (rows.get i).recipe = some k)
    (was : ((rows.get i).cavities.get j).Reserved) (is : ¬(f ((rows.get i).cavities.get j)).Reserved) (v : Verdict) :
    ReservedOk (changedRows rows i j f) (runs.set k ((runs.get k).account v)) := by
  have hsum := fun m => rowSum_reservedFor_changed (f := f) (j := j) live m
  simp only [decide_eq_true was, decide_eq_false is, Bool.toNat_true, Bool.toNat_false, ite_self, Nat.add_zero] at hsum
  have hk := hsum k
  rw [if_pos recipe] at hk
  refine h.modify (f := fun e => e.account v) ?_ (fun m hm => ?_) fun hmode => ?_
  · have := h.count k
    dsimp only [RunEntry.account]
    omega
  · have := hsum m
    rwa [if_neg fun he => hm (Option.some.inj (he.symm.trans recipe))] at this
  · have := h.within k hmode
    dsimp only [RunEntry.account]
    split <;> omega

/-- A cavity with its outcome, and its due record placed. -/
def Cavity.withOutcome (o : ToolOutcome) (r : PartRecord) (room : Prop) [Decidable room] (c : Cavity) : Cavity :=
  { c with tool := o.status }.placed r room

/-- The extraction controller after an outcome (R102, R110). -/
def Extraction.afterOutcome (x : Extraction) (grant : Option Grant) (o : ToolOutcome) : Extraction :=
  { x with
    grant := grant
    uncleared := if o = .removed then x.uncleared - 1 else x.uncleared }

/-- What an outcome writes, but for the notices that it raises. -/
theorem State.withOutcome_eq {s : State} {i k : Fin 8} (hk : (s.row i).recipe = some k) (j : Fin 8) (grant : Option Grant)
    (o : ToolOutcome) : ∃ r : PartRecord, s.withOutcome grant i j o =
      { s with
        rows := changedRows s.rows i j (Cavity.withOutcome o r (s.ring.length < 64))
        runs := s.runs.set k ((s.runs.get k).account r.verdict)
        recordQueue := if s.ring.length < 64 then s.recordQueue else s.recordQueue ++ [(i, j)]
        ring := if s.ring.length < 64 then s.ring ++ [r] else s.ring
        extraction := s.extraction.afterOutcome grant o
        ports := (s.withOutcome grant i j o).ports } := by
  let u := (s.setGrant grant).modifyCavity i j fun c => { c with tool := o.status }
  have hrow : (u.row i).recipe = some k := by
    rw [State.row_modifyCavity_self]
    exact hk
  refine ⟨u.freeze i j o, ?_⟩
  unfold State.withOutcome Extraction.afterOutcome
  rw [State.recordDue_eq hrow j o, State.modifyCavity_modifyCavity]
  by_cases ho : o = .removed
  · simp only [if_pos ho]
    rfl
  · simp only [if_neg ho]
    rfl

/-- A cavity in the tool of a row in OPENED receives its outcome, and its record becomes due. -/
theorem State.Core.withOutcome {s : State} (h : s.Core) {i j : Fin 8} {o : ToolOutcome} {grant : Option Grant}
    (opened : (s.row i).state = .opened)
    (held : (s.cavity i j).tool = .inTool ∧ grant = s.extraction.grant ∨ (s.cavity i j).tool = .granted ∧ grant = none)
    (reported : o ≠ .cleared) : (s.withOutcome grant i j o).Core := by
  have live : (s.row i).state ≠ .free := by simp [opened]
  obtain ⟨k, hk⟩ := Option.ne_none_iff_exists'.1 ((h.fits i).named live).1
  have inTool : (s.cavity i j).tool = .inTool ∨ (s.cavity i j).tool = .granted := held.imp And.left And.left
  have due := h.notDue opened inTool
  have hmarked := (h.fits i).marked j
  obtain ⟨hcharge, hnone, hcuring, -, -⟩ : (s.cavity i j).Demoulding := by
    rcases h.fitsState opened j with hb | hd
    · simp [hb.2.2.2.1] at inTool
    · exact hd
  obtain ⟨r, heq⟩ := State.withOutcome_eq hk j grant o
  let f := Cavity.withOutcome o r (s.ring.length < 64)
  have hrecord : (f (s.cavity i j)).record = if s.ring.length < 64 then .recorded else .queued := rfl
  have hdone : (f (s.cavity i j)).record ≠ .notDue := by
    rw [hrecord]
    split <;> decide
  have hlength : (if s.ring.length < 64 then s.ring ++ [r] else s.ring).length =
      if s.ring.length < 64 then s.ring.length + 1 else s.ring.length := by
    split <;> simp
  rw [heq]
  refine {
    table := h.table.changed opened
      (.inr ⟨hcharge, hnone, hcuring, o.status_ne.1, iff_of_false hdone (not_or.2 o.status_ne.2)⟩)
      ⟨hmarked.chargeRecord, hmarked.target, ?frozen⟩
    grant := ?grant
    uncleared := ?uncleared
    queue := hlength ▸ h.queue.placed due hrecord
    reserved := h.reserved.accounted live hk ⟨.inr hcharge, due⟩ (fun hr => hdone hr.2) _
    store := h.store
    platen := h.platen
    slots := h.slots.of_sameKey changedRows_key }
  case frozen =>
    change (f (s.cavity i j)).record = .queued ↔ (f (s.cavity i j)).frozen ≠ none
    have hfrozen : (s.cavity i j).frozen = none :=
      not_not.1 fun hf => absurd (due.symm.trans (hmarked.frozen.2 hf)) (by decide)
    by_cases room : s.ring.length < 64 <;> simp [f, Cavity.withOutcome, Cavity.placed, room, hfrozen]
  case grant =>
    rcases held with ⟨ht, rfl⟩ | ⟨ht, rfl⟩
    · have hsame : GrantOk s.rows (s.extraction.afterOutcome s.extraction.grant o) s.settings.interlockPattern :=
        ⟨h.grant.held, h.grant.only, h.grant.permitted⟩
      exact hsame.changed (iff_of_false o.status_ne.2.2 fun hg => absurd (ht.symm.trans hg) (by decide))
    · exact h.grant.ended ht o.status_ne.2.2 rfl
  case uncleared =>
    have hsum := rowSum_toolCount_changed (rows := s.rows) (i := i) (j := j)
      (f := Cavity.withOutcome o r (s.ring.length < 64))
    have hwas : ((s.rows.get i).cavities.get j).InTool := inTool.elim .inl fun ht => .inr (.inl ht)
    have his : (Cavity.withOutcome o r (s.ring.length < 64) ((s.rows.get i).cavities.get j)).InTool ↔ o ≠ .removed :=
      ToolOutcome.status_inTool reported (s.cavity i j)
    have hcount := h.uncleared
    dsimp only [Extraction.afterOutcome]
    split
    · next ho =>
      rw [decide_eq_true hwas, decide_eq_false (mt his.1 (not_not.2 ho)), Bool.toNat_true, Bool.toNat_false] at hsum
      omega
    · next ho =>
      rw [decide_eq_true hwas, decide_eq_true (his.2 ho), Bool.toNat_true] at hsum
      omega

/-! ### A cavity cleared by hand, and a record sent (R111, R129) -/

/-- A STUCK or ABANDONED cavity is CLEARED. -/
theorem State.Core.cleared {s : State} (h : s.Core) {i j : Fin 8}
    (held : (s.cavity i j).tool = .stuck ∨ (s.cavity i j).tool = .abandoned) :
    (s.modifyCavity i j fun c => { c with tool := .cleared }).oneCleared.Core := by
  have hmarked := (h.fits i).marked j
  obtain ⟨opened, hcharge, hnone, hcuring, -, hdue⟩ :=
    (h.fits i).opened_of_demoulded (j := j) (.inr (show _ ≠ _ ∧ _ ≠ _ by
      rw [← State.cavity]
      rcases held with ht | ht <;> simp [ht]))
  have hnot : (s.cavity i j).tool ≠ .inTool ∧ (s.cavity i j).tool ≠ .granted := by rcases held with ht | ht <;> simp [ht]
  exact {
    table := h.table.changed opened
      (.inr ⟨hcharge, hnone, hcuring, nofun, iff_of_false (fun hd => (hdue.1 hd).elim hnot.1 hnot.2) (by simp)⟩)
      ⟨hmarked.chargeRecord, hmarked.target, hmarked.frozen⟩
    grant := GrantOk.changed (rows := s.rows) ⟨h.grant.held, h.grant.only, h.grant.permitted⟩
      (iff_of_false nofun hnot.2)
    uncleared := by
      have hsum := rowSum_toolCount_changed (rows := s.rows) (i := i) (j := j) (f := fun c => { c with tool := .cleared })
      have hwas : ((s.rows.get i).cavities.get j).InTool := .inr (.inr held)
      have his : ¬({ (s.rows.get i).cavities.get j with tool := .cleared } : Cavity).InTool := by simp [Cavity.InTool]
      rw [decide_eq_true hwas, decide_eq_false his, Bool.toNat_true, Bool.toNat_false] at hsum
      have hcount := h.uncleared
      change s.extraction.uncleared - 1 = rowSum (changedRows s.rows i j fun c => { c with tool := .cleared }) Row.toolCount
      omega
    queue := h.queue.changed .rfl
    reserved := h.reserved.changed (show (s.row i).state ≠ .free by simp [opened]) .rfl
    store := h.store
    platen := h.platen
    slots := h.slots.of_sameKey changedRows_key }

/-- The head of the record queue takes the slot that the oldest record leaves (R129). -/
theorem State.Core.ringTurned {s : State} (h : s.Core) : s.ringTurned.Core := by
  unfold State.ringTurned
  split
  · next hq =>
    have hqueue : QueueOk s.rows s.recordQueue s.ring.tail.length :=
      ⟨by rw [List.length_tail]; exact (Nat.sub_le _ _).trans h.queue.capacity, fun hne => absurd hq hne, h.queue.once,
        h.queue.queued⟩
    exact { h with queue := hqueue }
  · next i j rest hq =>
    have hmem : (i, j) ∈ s.recordQueue := by rw [hq]; exact List.mem_cons_self
    have hqueued : (s.cavity i j).record = .queued := (h.queue.queued i j).2 hmem
    have hmarked := (h.fits i).marked j
    obtain ⟨opened, hcharge, hnone, hcuring, htool, hdue⟩ :=
      (h.fits i).opened_of_demoulded (j := j) (.inl (hqueued.trans_ne (by decide)))
    obtain ⟨r, hr⟩ := Option.ne_none_iff_exists'.1 (hmarked.frozen.1 hqueued)
    have hnotTool : ¬((s.cavity i j).tool = .inTool ∨ (s.cavity i j).tool = .granted) := fun ht =>
      absurd (hqueued.symm.trans (hdue.2 ht)) (by decide)
    have hfull : s.ring.length = 64 := h.queue.full (List.ne_nil_of_mem hmem)
    have honce := h.queue.once
    rw [hq, List.nodup_cons] at honce
    let f : Cavity → Cavity := fun c => { c with record := .recorded, frozen := none }
    have hcore : CoreOk (changedRows s.rows i j f) s.runs rest (s.ring.tail ++ [r]).length s.extraction
        s.settings.interlockPattern s.store.slots s.store.write s.regulator.platen s.regulator.platenRecipe := {
      table := h.table.changed opened
        (.inr ⟨hcharge, hnone, hcuring, htool, iff_of_false nofun hnotTool⟩)
        ⟨hmarked.chargeRecord, hmarked.target, iff_of_false nofun fun hn => hn rfl⟩
      grant := h.grant.changed .rfl
      uncleared := by
        have hsum := rowSum_toolCount_changed (rows := s.rows) (i := i) (j := j) (f := f)
        rw [h.uncleared]
        exact (Nat.add_right_cancel hsum).symm
      queue := by
        have hlen : (s.ring.tail ++ [r]).length = 64 := by simp [hfull]
        refine ⟨hlen.le, fun _ => hlen, honce.2, fun m l => ?_⟩
        rw [changedRows_cavity]
        split
        · next he =>
          obtain ⟨rfl, rfl⟩ := he
          exact iff_of_false nofun honce.1
        · next he =>
          rw [h.queue.queued m l, hq, List.mem_cons]
          have : (m, l) ≠ (i, j) := fun hml => he ⟨(Prod.mk.inj hml).1.symm, (Prod.mk.inj hml).2.symm⟩
          simp [this]
      reserved := h.reserved.changed (show (s.row i).state ≠ .free by rw [show (s.row i).state = _ from opened]; decide)
        (iff_of_false (fun hr => absurd hr.2 nofun) fun hr => absurd (hqueued.symm.trans hr.2) (by decide))
      store := h.store
      platen := h.platen
      slots := h.slots.of_sameKey changedRows_key }
    have hfrozen : (({ s with ring := s.ring.tail, recordQueue := rest } : State).cavity i j).frozen = some r := hr
    simp only [State.recordQueued, hfrozen, State.enterRing_eq]
    exact hcore

end Sys2Proof.Machine
end

section
/-! The events of the settings, the run table and the recipe store, and the reset. -/

namespace Sys2Proof.Machine

/-! ### Settings (R168) -/

theorem applyEntry_interlockPattern {e : Nat × List Byte} (h : e.1 ≠ 15) (c : Settings) :
    (applyEntry c e).interlockPattern = c.interlockPattern := by
  unfold applyEntry
  split
  case h_15 h15 => exact absurd h15 h
  all_goals rfl

theorem foldl_applyEntry_interlockPattern {es : List (Nat × List Byte)} (h : ∀ e ∈ es, e.1 ≠ 15) (c : Settings) :
    (es.foldl applyEntry c).interlockPattern = c.interlockPattern := by
  induction es generalizing c with
  | nil => rfl
  | cons e es ih =>
    rw [List.foldl_cons, ih (fun x hx => h x (List.mem_cons_of_mem _ hx)),
      applyEntry_interlockPattern (h e List.mem_cons_self)]

/-- While a row is not FREE the interlock pattern stands. -/
theorem State.appliedSettings_interlockPattern {s : State} {i : Fin 8} (live : (s.row i).state ≠ .free)
    (es : List (Nat × List Byte)) : (s.appliedSettings es).interlockPattern = s.settings.interlockPattern :=
  foldl_applyEntry_interlockPattern (fun e he h15 => by
    have hkept := (List.mem_filter.1 he).2
    have hignored : s.ignores e = true := (s.ignores_iff e).2 ⟨.inr (.inr h15), i, live⟩
    rw [hignored] at hkept
    exact absurd hkept (by decide)) _

/-- A grant stands only in a row that is not FREE, so that a new interlock pattern is not written under it. -/
theorem State.Core.settingsWritten {s : State} (h : s.Core) (es : List (Nat × List Byte)) : (s.withApplied es).Core := by
  refine { h with grant := ⟨h.grant.held, h.grant.only, fun hg => ?_⟩ }
  obtain ⟨g, hg'⟩ := Option.ne_none_iff_exists'.1 hg
  have opened : (s.row g.row).state = .opened := (h.grant.held g hg').1
  rw [State.appliedSettings_interlockPattern (i := g.row) (by rw [opened]; decide)]
  exact h.grant.permitted hg

/-! ### The run table (R154) -/

theorem RunEntry.setMode_reserved (e : RunEntry) (mode : RunMode) (quantity : Nat) :
    (e.setMode mode quantity).reserved = e.reserved := by cases mode <;> rfl

theorem State.Core.runSet {s : State} (h : s.Core) {k : Fin 8} {mode : RunMode} {quantity : Nat}
    (room : mode = .counted → (s.runs.get k).reserved ≤ quantity) :
    (s.modifyRun k fun e => e.setMode mode quantity).Core := by
  have within : ((s.runs.get k).setMode mode quantity).mode = .counted →
      ((s.runs.get k).setMode mode quantity).reserved ≤ ((s.runs.get k).setMode mode quantity).remaining := fun hm => by
    cases mode with
    | counted => exact room rfl
    | continuous => exact absurd hm nofun
    | unset => exact absurd hm nofun
  have reserved := h.reserved.modify (rows' := s.rows) (f := fun e => e.setMode mode quantity)
    ((RunEntry.setMode_reserved _ mode quantity).trans (h.reserved.count k)) (fun _ _ => rfl) within
  exact { h with reserved := reserved }

/-! ### The recipe store (R145 to R150) -/

theorem State.Core.writeStarted {s : State} (h : s.Core) {k : Fin 8} {r : Recipe}
    (unused : ¬∃ m, (s.row m).state ≠ .free ∧ (s.row m).recipe = some k) (passes : r.firstFailure = none) :
    ({ s with store := { s.store with write := some { slot := k, accepted := s.clock, recipe := r } } } : State).Core :=
  { h with
    store := ⟨h.store.valid, h.store.written, fun w hw => by
      obtain rfl := Option.some.inj hw
      exact (Recipe.firstFailure_eq_none_iff_valid r).1 passes⟩
    slots := fun i m hi hm => ⟨(h.slots i m hi hm).1, fun he => unused ⟨i, hi, hm.trans he.symm⟩⟩ }

/-- The slot of a completed write is VALID; no other slot changes. -/
theorem State.Core.writeCompleted {s : State} (h : s.Core) {w : WriteInFlight} (held : s.store.write = some w) :
    ({ s with store := { s.store with
        slots := s.store.slots.set w.slot { image := SlotImage.programmed w.recipe, validity := .valid }
        write := none } } : State).Core := by
  have hw := h.store.inFlight w held
  have hkeep : ∀ k, (s.store.slots.get k).validity = .valid →
      ((s.store.slots.set w.slot { image := SlotImage.programmed w.recipe, validity := .valid }).get k).validity =
        .valid := fun k hk => by
    rw [Vec.get_set]
    split
    · rfl
    · exact hk
  refine { h with
    store := ⟨fun k hk => ?_, fun k r check himage => ?_, nofun⟩
    platen := ⟨h.platen.off, fun k hk => hkeep k (h.platen.slot k hk)⟩
    slots := fun i m hi hm => ⟨hkeep m (h.slots i m hi hm).1, nofun⟩ }
  · rw [Vec.get_set] at hk ⊢
    split
    · exact ⟨w.recipe, hw, rfl⟩
    · next hne =>
      rw [if_neg hne] at hk
      exact h.store.valid k hk
  · rw [Vec.get_set] at himage
    split at himage
    · obtain ⟨rfl, -⟩ := SlotImage.written.inj himage
      exact hw
    · exact h.store.written k r check himage

/-! ### Reset (R1, R145, R151) -/

theorem Store.cut_written {st : Store} {k : Fin 8} {r : Recipe} {check : BitVec 32}
    (h : st.cut k = .written r check) : (st.slots.get k).image = .written r check := by
  unfold Store.cut at h
  split at h
  · split at h
    · exact absurd h nofun
    · exact h
  · exact h

/-- Verification makes a slot VALID where its contents agree with their check. -/
theorem StoreOk.verified {st : Store} (h : StoreOk st.slots st.write) : StoreOk st.verified none where
  valid := fun k hk => by
    rw [Store.verified, Vec.get_ofFn] at hk ⊢
    dsimp only at hk ⊢
    unfold SlotImage.verify at hk
    split at hk
    · exact absurd hk nofun
    · next r check himage =>
      split at hk
      · next hcheck => exact ⟨r, h.written k r check (Store.cut_written himage), by rw [himage, hcheck]⟩
      · exact absurd hk nofun
    · exact absurd hk nofun
  written := fun k r check himage => by
    rw [Store.verified, Vec.get_ofFn] at himage
    exact h.written k r check (Store.cut_written himage)
  inFlight := nofun

/-- A table of freed rows, an empty ring and queue, no grant and no platen recipe. -/
theorem CoreOk.ofFreed {runs : Vec RunEntry 8} {n : Nat} {x : Extraction} {pattern : BitVec 16} {slots : Vec StoreSlot 8}
    {write : Option WriteInFlight} {p : PlatenState} {recipe : Option (Fin 8)} (room : n ≤ 64) (grant : x.grant = none)
    (uncleared : x.uncleared = 0) (reserved : ∀ k, (runs.get k).reserved = 0) (store : StoreOk slots write)
    (platen : PlatenOk slots p recipe) : CoreOk (.replicate 8 Row.freed) runs [] n x pattern slots write p recipe := by
  have hfree : ∀ i, ((Vec.replicate 8 Row.freed).get i).state = .free := fun i => by rw [Vec.get_replicate]; rfl
  have hcavity : ∀ i j, ((Vec.replicate 8 Row.freed).get i).cavities.get j = Cavity.freed := fun i j => by
    rw [Vec.get_replicate, Row.freed_cavity]
  exact {
    table := {
      fits := fun i => by rw [Vec.get_replicate]; exact Row.freed_fits
      oneShot := fun i _ hi => absurd (hfree i) hi
      oneRecipe := fun i _ hi => absurd (hfree i) hi
      onePressed := fun i _ hi => absurd (hfree i) hi.live
      rank := fun i hi => absurd (hfree i) hi
      oneRank := fun i _ hi => absurd (hfree i) hi }
    grant := ⟨fun g hg => absurd (grant.symm.trans hg) nofun,
      fun i j hij => by rw [hcavity] at hij; exact absurd hij nofun, fun hg => absurd grant hg⟩
    uncleared := uncleared.trans (rowSum_eq_zero fun i => by rw [Vec.get_replicate, Row.toolCount_freed]).symm
    queue := ⟨room, fun hq => absurd rfl hq, .nil, fun i j => by
      rw [hcavity]
      exact iff_of_false nofun List.not_mem_nil⟩
    reserved := ⟨fun k => (reserved k).trans (rowSum_eq_zero fun i => by
      rw [Vec.get_replicate, Row.reservedFor_freed]).symm, fun k _ => by rw [reserved k]; exact Nat.zero_le _⟩
    store := store
    platen := platen
    slots := fun i _ hi => absurd (hfree i) hi }

theorem State.Core.afterReset {s : State} (h : s.Core) (strap : Bool) : (s.afterReset strap).Core :=
  .ofFreed (Nat.zero_le _) rfl rfl (fun k => by simp [State.afterReset, State.reset]) h.store.verified
    ⟨iff_of_true rfl rfl, nofun⟩

/-- The state after power-up, its store erased. -/
theorem State.reset_core : State.reset.Core := by
  have hslot : ∀ k, State.reset.store.slots.get k = { image := .erased, validity := .empty } := fun k =>
    Vec.get_replicate _ _
  exact .ofFreed (Nat.zero_le _) rfl rfl (fun k => by simp [State.reset])
    ⟨fun k hk => by rw [hslot] at hk; exact absurd hk nofun, fun k r check hi => by rw [hslot] at hi; exact absurd hi nofun,
      nofun⟩ ⟨by decide, nofun⟩

end Sys2Proof.Machine
end

section
/-! The age order of the rows that are not FREE: it holds each of them once, by rising rank (R3). -/

namespace Sys2Proof.Machine

/-- A row found by a rank is live and has it. -/
theorem State.of_find_rank {s : State} {i : Fin 8} {m : Nat}
    (h : (s.rows.find fun r => r.live && r.rank == some m) = some i) :
    (s.row i).state ≠ .free ∧ (s.row i).rank = some m := by
  simpa [Row.live, State.row] using Vec.find_eq_some h

/-- The rows of the age order are those that are not FREE. -/
theorem State.mem_ageOrder {s : State} (law : s.RankLaw) (i : Fin 8) : i ∈ s.ageOrder ↔ (s.row i).state ≠ .free := by
  simp only [State.ageOrder, List.mem_filterMap, List.mem_range]
  constructor
  · rintro ⟨m, -, hm⟩
    exact (State.of_find_rank hm).1
  · intro live
    obtain ⟨n, hn, low, high⟩ := law.range i live
    obtain ⟨m, rfl⟩ := Nat.exists_eq_add_of_le' low
    have rows : s.liveRows ≤ 8 := List.countP_le_length
    exact ⟨m, by omega, State.find_rank law live hn⟩

/-- The age order rises in rank. -/
theorem State.ageOrder_pairwise (s : State) :
    s.ageOrder.Pairwise fun a b => (s.row a).rank.getD 0 < (s.row b).rank.getD 0 := by
  refine List.Pairwise.filterMap _ (R := (· < ·)) (fun m n hlt a ha b hb => ?_) (List.pairwise_lt_range)
  rw [(State.of_find_rank ha).2, (State.of_find_rank hb).2]
  exact Nat.succ_lt_succ hlt

theorem State.ageOrder_nodup (s : State) : s.ageOrder.Nodup :=
  s.ageOrder_pairwise.imp fun hlt he => absurd hlt (by rw [he]; exact lt_irrefl _)

/-- The age order reads states and ranks only. -/
theorem State.ageOrder_congr {s t : State} (state : ∀ i, (t.row i).state = (s.row i).state)
    (rank : ∀ i, (t.row i).rank = (s.row i).rank) : t.ageOrder = s.ageOrder := by
  have key : ∀ m i, ((t.rows.get i).live && (t.rows.get i).rank == some m) =
      ((s.rows.get i).live && (s.rows.get i).rank == some m) := fun m i => by
    rw [Row.live, Row.live, show (t.rows.get i).state = _ from state i, show (t.rows.get i).rank = _ from rank i]
    rfl
  unfold State.ageOrder Vec.find
  simp only [key]

end Sys2Proof.Machine
end

section
/-! Records that become due one after the other while the ring has room for all of them (R25 step 3): what they write into
run table, ring and ports. -/

namespace Sys2Proof.Machine

/-! ### Notices raised in either order -/

/-- Strictly rising notice sets with the same members are equal. -/
theorem notices_ext {l m : List NoticeKind} (hl : l.Pairwise fun a b => a.code < b.code)
    (hm : m.Pairwise fun a b => a.code < b.code) (h : ∀ k, k ∈ l ↔ k ∈ m) : l = m := by
  have nodup : ∀ {n : List NoticeKind}, (n.Pairwise fun a b => a.code < b.code) → n.Nodup := fun hn =>
    hn.imp fun hlt he => absurd hlt (by rw [he]; exact lt_irrefl _)
  exact ((List.perm_ext_iff_of_nodup (nodup hl) (nodup hm)).2 h).eq_of_pairwise
    (fun _ _ _ _ h1 h2 => absurd h1 (lt_asymm h2)) hl hm

/-- A notice raised on a port where a condition holds. -/
def Port.raiseIf (p : Prop) [Decidable p] (kind : NoticeKind) (q : Port) : Port := if p then q.raise kind else q

theorem Port.NoticeLaw.raise {q : Port} (h : q.NoticeLaw) (k : NoticeKind) : (q.raise k).NoticeLaw :=
  ⟨insertNotice_pairwise h.once, by simp [Port.raise, insertNotice_ne_nil]⟩

theorem Port.NoticeLaw.raiseIf {q : Port} (h : q.NoticeLaw) (p : Prop) [Decidable p] (k : NoticeKind) :
    (q.raiseIf p k).NoticeLaw := by
  unfold Port.raiseIf
  split
  · exact h.raise k
  · exact h

theorem Port.raise_comm {q : Port} (h : q.NoticeLaw) (k l : NoticeKind) : (q.raise k).raise l = (q.raise l).raise k := by
  have : insertNotice l (insertNotice k q.notices) = insertNotice k (insertNotice l q.notices) :=
    notices_ext (insertNotice_pairwise (insertNotice_pairwise h.once)) (insertNotice_pairwise (insertNotice_pairwise h.once))
      fun x => by simp only [mem_insertNotice, or_left_comm]
  simp only [Port.raise, this]

theorem Port.raiseIf_comm {q : Port} (h : q.NoticeLaw) (a b : Prop) [Decidable a] [Decidable b] (k l : NoticeKind) :
    (q.raiseIf a k).raiseIf b l = (q.raiseIf b l).raiseIf a k := by
  unfold Port.raiseIf
  by_cases ha : a <;> by_cases hb : b <;> simp [ha, hb, Port.raise_comm h k l]

/-- A notice that one of two conditions raises, which do not hold together. -/
theorem Port.raiseIf_raiseIf (q : Port) {a b c : Prop} [Decidable a] [Decidable b] [Decidable c] (k : NoticeKind)
    (once : a → ¬b) (either : c ↔ a ∨ b) : (q.raiseIf a k).raiseIf b k = q.raiseIf c k := by
  unfold Port.raiseIf
  by_cases ha : a
  · simp [ha, once ha, either]
  · simp [ha, either]

/-! ### The run table (R124, R125) -/

/-- An entry of the run table after `n` due records, `good` of them GOOD. -/
def RunEntry.accountAll (e : RunEntry) (n good : Nat) : RunEntry :=
  { e with
    reserved := e.reserved - n
    remaining := if e.mode = .counted then e.remaining - good else e.remaining }

/-- Whether `good` GOOD records bring the remaining quantity of a COUNTED run to 0. -/
abbrev RunEntry.CompletedBy (e : RunEntry) (good : Nat) : Prop := e.mode = .counted ∧ 0 < e.remaining ∧ e.remaining ≤ good

theorem RunEntry.accountAll_zero (e : RunEntry) : e.accountAll 0 0 = e := by simp [RunEntry.accountAll]

theorem RunEntry.account_accountAll (e : RunEntry) (v : Verdict) (n good : Nat) :
    (e.account v).accountAll n good = e.accountAll (n + 1) (good + if v = .good then 1 else 0) := by
  simp only [RunEntry.accountAll, RunEntry.account, RunEntry.mk.injEq, true_and]
  refine ⟨?_, by omega⟩
  by_cases hm : e.mode = .counted <;> by_cases hv : v = .good <;> simp [hm, hv]
  omega

/-- The run completes at the first record or at a later one. -/
theorem RunEntry.completedBy_succ (e : RunEntry) (v : Verdict) (good : Nat) :
    (e.CompletedBy (good + if v = .good then 1 else 0) ↔ e.completes v = true ∨ (e.account v).CompletedBy good) ∧
      (e.completes v = true → ¬(e.account v).CompletedBy good) := by
  rw [RunEntry.completes_iff]
  by_cases hm : e.mode = .counted <;> by_cases hv : v = .good <;> simp [RunEntry.CompletedBy, RunEntry.account, hm, hv]
  omega

/-! ### Records due one after the other -/

/-- The record of a cavity that becomes due with outcome CLEARED (R25 step 3). -/
abbrev State.clearRecord (s : State) (p : Fin 8 × Fin 8) : PartRecord := s.freeze p.1 p.2 .cleared

/-- The cavities of a list have their records made due with outcome CLEARED. -/
abbrev State.dueCleared (s : State) (l : List (Fin 8 × Fin 8)) : State :=
  l.foldl (fun t p => t.recordDue p.1 p.2 .cleared) s

/-- How many of the records of a list are GOOD. -/
def State.goodAmong (s : State) (l : List (Fin 8 × Fin 8)) : Nat :=
  l.countP fun p => decide ((s.clearRecord p).verdict = .good)

/-- The notice port of the records after the records of a list. -/
def Port.afterDue (q : Port) (complete : Prop) [Decidable complete] (before after : Nat) : Port :=
  (q.raiseIf complete .runComplete).raiseIf (before < 48 ∧ 48 ≤ after) .ringHigh

theorem Port.afterDue_afterDue {q : Port} (h : q.NoticeLaw) {a b c : Prop} [Decidable a] [Decidable b] [Decidable c]
    (once : a → ¬b) (either : c ↔ a ∨ b) {before middle after : Nat} (h1 : before ≤ middle) (h2 : middle ≤ after) :
    (q.afterDue a before middle).afterDue b middle after = q.afterDue c before after := by
  unfold Port.afterDue
  rw [Port.raiseIf_comm (h.raiseIf a .runComplete), Port.raiseIf_raiseIf q .runComplete once either,
    Port.raiseIf_raiseIf _ .ringHigh (c := before < 48 ∧ 48 ≤ after) (by omega) (by omega)]

theorem Port.afterDue_nothing (q : Port) {complete : Prop} [Decidable complete] (h : ¬complete) (n : Nat) :
    q.afterDue complete n n = q := by
  have : ¬(n < 48 ∧ 48 ≤ n) := by omega
  simp only [Port.afterDue, Port.raiseIf, if_neg h, if_neg this]

theorem Port.NoticeLaw.afterDue {q : Port} (h : q.NoticeLaw) (complete : Prop) [Decidable complete] (before after : Nat) :
    (q.afterDue complete before after).NoticeLaw := (h.raiseIf complete .runComplete).raiseIf _ .ringHigh

/-- One record due with outcome CLEARED while the ring has room: what it writes. -/
theorem State.recordDue_room {s : State} {i k : Fin 8} (hk : (s.row i).recipe = some k) (j : Fin 8)
    (room : s.ring.length < 64) : let r := s.clearRecord (i, j)
    s.recordDue i j .cleared = { s.modifyCavity i j fun c => { c with verdict := some r.verdict, record := .recorded } with
      runs := s.runs.set k ((s.runs.get k).account r.verdict)
      ring := s.ring ++ [r]
      ports := { s.ports with
        press := s.ports.press.raiseIf ((s.runs.get k).completes r.verdict) .runComplete
        charge := s.ports.charge.raiseIf ((s.runs.get k).completes r.verdict) .runComplete
        records := s.ports.records.afterDue ((s.runs.get k).completes r.verdict) s.ring.length (s.ring.length + 1) } } := by
  intro r
  rw [State.recordDue_eq hk]
  have hhigh : s.ring.length < 48 ∧ 48 ≤ s.ring.length + 1 ↔ s.ring.length = 47 := by omega
  simp only [Port.afterDue, Port.raiseIf, Cavity.placed, if_pos room, hhigh]
  rfl

theorem State.row_modifyCavity_frame (s : State) (i j : Fin 8) (f : Cavity → Cavity) (m : Fin 8) :
    (s.modifyCavity i j f).row m = { s.row m with cavities := ((s.modifyCavity i j f).row m).cavities } := by
  by_cases hm : i = m
  · subst hm
    rw [State.row_modifyCavity_self]
    rfl
  · rw [State.row_modifyCavity_ne s j f hm]

/-- A frozen record does not read the other cavities. -/
theorem State.clearRecord_congr {s t : State} {i j : Fin 8} (row : t.row i = { s.row i with cavities := (t.row i).cavities })
    (cavity : t.cavity i j = s.cavity i j) (store : t.store = s.store) (clock : t.clock = s.clock) :
    t.clearRecord (i, j) = s.clearRecord (i, j) :=
  State.freeze_congr (by rw [row]) (by rw [cavity]) store clock .cleared

/-- What the due records of a list write, the ring having room for all of them. -/
theorem State.dueCleared_eq {k : Fin 8} {l : List (Fin 8 × Fin 8)} (nodup : l.Nodup) {s : State}
    (recipe : ∀ p ∈ l, (s.row p.1).recipe = some k) (room : s.ring.length + l.length ≤ 64)
    (law : s.ports.records.NoticeLaw) :
    s.dueCleared l = { s with
      rows := (s.dueCleared l).rows
      runs := s.runs.set k ((s.runs.get k).accountAll l.length (s.goodAmong l))
      ring := s.ring ++ l.map s.clearRecord
      ports := { s.ports with
        press := s.ports.press.raiseIf ((s.runs.get k).CompletedBy (s.goodAmong l)) .runComplete
        charge := s.ports.charge.raiseIf ((s.runs.get k).CompletedBy (s.goodAmong l)) .runComplete
        records := s.ports.records.afterDue ((s.runs.get k).CompletedBy (s.goodAmong l)) s.ring.length
          (s.ring.length + l.length) } } ∧
      (∀ i, (s.dueCleared l).row i = { s.row i with cavities := ((s.dueCleared l).row i).cavities }) := by
  induction l generalizing s with
  | nil =>
    have hnone : ¬(s.runs.get k).CompletedBy 0 := fun h => by
      have := h.2
      omega
    have hgood : s.goodAmong [] = 0 := rfl
    simp only [State.dueCleared, List.foldl_nil, List.length_nil, hgood, RunEntry.accountAll_zero, Vec.set_get_self,
      List.map_nil, List.append_nil, Port.raiseIf, if_neg hnone, Nat.add_zero, Port.afterDue_nothing _ hnone, implies_true,
      and_self]
  | cons p l ih =>
    obtain ⟨i, j⟩ := p
    rw [List.nodup_cons] at nodup
    rw [List.length_cons] at room
    let r := s.clearRecord (i, j)
    let t := s.recordDue i j .cleared
    have hdue := State.recordDue_room (i := i) (recipe (i, j) List.mem_cons_self) j (by omega)
    have htrow : t.rows = (s.modifyCavity i j fun c => { c with verdict := some r.verdict, record := .recorded }).rows :=
      (congrArg State.rows hdue :)
    have hrow : ∀ m, t.row m = { s.row m with cavities := (t.row m).cavities } := fun m => by
      rw [State.row_congr htrow]
      exact State.row_modifyCavity_frame s i j _ m
    have hcavity : ∀ p ∈ l, t.cavity p.1 p.2 = s.cavity p.1 p.2 := fun p hp => by
      rw [State.cavity_congr htrow]
      exact State.cavity_modifyCavity_ne s _ fun he => nodup.1 (by rw [show (i, j) = p from he]; exact hp)
    have hstore : t.store = s.store := (congrArg State.store hdue :)
    have hclock : t.clock = s.clock := (congrArg State.clock hdue :)
    have hrecord : ∀ p ∈ l, t.clearRecord p = s.clearRecord p := fun p hp =>
      State.clearRecord_congr (hrow p.1) (hcavity p hp) hstore hclock
    have hgood : t.goodAmong l = s.goodAmong l := List.countP_congr fun p hp => by rw [hrecord p hp]
    have hring : t.ring = s.ring ++ [r] := (congrArg State.ring hdue :)
    have hruns : t.runs.get k = (s.runs.get k).account r.verdict := by
      rw [(congrArg State.runs hdue :)]
      exact Vec.get_set_self _ _ _
    have hmore : s.goodAmong ((i, j) :: l) = s.goodAmong l + if r.verdict = .good then 1 else 0 := by
      simp only [State.goodAmong, List.countP_cons, decide_eq_true_eq]
      rfl
    obtain ⟨heq, hrows⟩ := ih nodup.2 (s := t) (fun p hp => by rw [hrow]; exact recipe p (List.mem_cons_of_mem _ hp))
      (by rw [hring, List.length_append, List.length_singleton]; omega)
      (by rw [(congrArg State.ports hdue :)]; exact law.afterDue _ _ _)
    refine ⟨?_, fun m => ?_⟩
    · obtain ⟨heither, honce⟩ := (s.runs.get k).completedBy_succ r.verdict (s.goodAmong l)
      have hfold : s.dueCleared ((i, j) :: l) = t.dueCleared l := rfl
      have hpress : (t.ports.press).raiseIf ((t.runs.get k).CompletedBy (t.goodAmong l)) .runComplete =
          s.ports.press.raiseIf ((s.runs.get k).CompletedBy (s.goodAmong ((i, j) :: l))) .runComplete := by
        simp only [hgood, hruns, hmore]
        exact (congrArg (Port.raiseIf _ _) (congrArg (fun u => u.ports.press) hdue :)).trans
          (Port.raiseIf_raiseIf _ .runComplete honce heither)
      have hcharge : (t.ports.charge).raiseIf ((t.runs.get k).CompletedBy (t.goodAmong l)) .runComplete =
          s.ports.charge.raiseIf ((s.runs.get k).CompletedBy (s.goodAmong ((i, j) :: l))) .runComplete := by
        simp only [hgood, hruns, hmore]
        exact (congrArg (Port.raiseIf _ _) (congrArg (fun u => u.ports.charge) hdue :)).trans
          (Port.raiseIf_raiseIf _ .runComplete honce heither)
      have hrecords : (t.ports.records).afterDue ((t.runs.get k).CompletedBy (t.goodAmong l)) t.ring.length
            (t.ring.length + l.length) =
          s.ports.records.afterDue ((s.runs.get k).CompletedBy (s.goodAmong ((i, j) :: l))) s.ring.length
            (s.ring.length + ((i, j) :: l).length) := by
        simp only [hgood, hruns, hmore, hring, List.length_append, List.length_cons, List.length_nil, Nat.zero_add]
        rw [show s.ring.length + (l.length + 1) = s.ring.length + 1 + l.length by omega]
        exact (congrArg (fun q => Port.afterDue q _ _ _) (congrArg (fun u => u.ports.records) hdue :)).trans
          (Port.afterDue_afterDue law honce heither (Nat.le_succ _) (Nat.le_add_right _ _))
      have hnewRuns : t.runs.set k ((t.runs.get k).accountAll l.length (t.goodAmong l)) =
          s.runs.set k ((s.runs.get k).accountAll ((i, j) :: l).length (s.goodAmong ((i, j) :: l))) := by
        rw [hruns, hgood, RunEntry.account_accountAll, ← hmore, (congrArg State.runs hdue :), Vec.set_set_self]
        rfl
      have hnewRing : t.ring ++ l.map t.clearRecord = s.ring ++ ((i, j) :: l).map s.clearRecord := by
        rw [hring, List.map_congr_left hrecord, List.map_cons, List.append_assoc]
        rfl
      rw [hfold]
      refine heq.trans ?_
      rw [hpress, hcharge, hrecords, hnewRuns, hnewRing]
      generalize (t.dueCleared l).rows = rows
      have ht : t = { s with rows := t.rows, runs := t.runs, ring := t.ring, ports := t.ports } := by
        rw [(congrArg State.runs hdue :), (congrArg State.ring hdue :), (congrArg State.ports hdue :), htrow]
        exact hdue
      have hextract : t.ports.extract = s.ports.extract := (congrArg (fun u : State => u.ports.extract) hdue :)
      dsimp only
      rw [hextract, ht]
    · change (t.dueCleared l).row m = { s.row m with cavities := ((t.dueCleared l).row m).cavities }
      rw [hrows m, hrow m]

end Sys2Proof.Machine
end

section
/-! CELL_CLEAR up to the due records: the pending cavities are forced and noted, and the list of those whose record becomes
due (R24, R25 steps 1 to 3). -/

namespace Sys2Proof.Machine

/-! ### Pending cavities (R24) -/

/-- A pending cavity: part-bearing and not yet RECORDED, in a row the press has closed on (R24). -/
abbrev State.Pending (s : State) (i j : Fin 8) : Prop :=
  ((s.row i).Pressed ∨ (s.row i).state = .opened) ∧ (s.cavity i j).charge = .charged ∧ (s.cavity i j).record ≠ .recorded

theorem State.isPending_iff (s : State) (i j : Fin 8) : (s.row i).isPending (s.cavity i j) = true ↔ s.Pending i j := by
  simp only [Row.isPending, Row.moulded, Bool.and_eq_true, Bool.or_eq_true, Row.inPress_iff, Cavity.partBearing, beq_iff_eq,
    bne_iff_ne, and_assoc]

theorem State.Pending.live {s : State} {i j : Fin 8} (h : s.Pending i j) : (s.row i).state ≠ .free :=
  h.1.elim Row.Pressed.live fun ho => by rw [ho]; decide

/-- The number of pending cavities, row by row. -/
theorem State.pendingCavities_eq (s : State) : s.pendingCavities =
    ((List.finRange 8).map fun i => (List.finRange 8).countP fun j => decide (s.Pending i j)).sum := by
  rw [State.pendingCavities, Vec.toList_eq, List.map_map]
  refine congrArg List.sum (List.map_congr_left fun i _ => ?_)
  rw [Function.comp_apply, Vec.count_eq]
  exact countP_finRange_congr fun j => Bool.eq_iff_iff.2 ((s.isPending_iff i j).trans (decide_eq_true_iff).symm)

/-- The pending cavities: rows in age order, cavities in number order (R25 step 3). -/
def State.pendingList (s : State) : List (Fin 8 × Fin 8) :=
  s.ageOrder.flatMap fun i => ((List.finRange 8).filter fun j => decide (s.Pending i j)).map fun j => (i, j)

theorem State.mem_pendingList {s : State} {p : Fin 8 × Fin 8} (h : p ∈ s.pendingList) : s.Pending p.1 p.2 := by
  obtain ⟨i, -, hi⟩ := List.mem_flatMap.1 h
  obtain ⟨j, hj, rfl⟩ := List.mem_map.1 hi
  exact of_decide_eq_true (List.mem_filter.1 hj).2

theorem State.pendingList_nodup (s : State) : s.pendingList.Nodup := by
  refine List.nodup_flatMap.2 ⟨fun i _ => (List.Nodup.filter _ (List.nodup_finRange 8)).map fun a b h => (Prod.mk.inj h).2,
    s.ageOrder_nodup.imp fun hne => List.disjoint_left.2 fun p hp hq => ?_⟩
  obtain ⟨_, _, rfl⟩ := List.mem_map.1 hp
  obtain ⟨_, _, he⟩ := List.mem_map.1 hq
  exact hne (Prod.mk.inj he).1.symm

/-- The list holds every pending cavity, since the age order holds every row that is not FREE. -/
theorem State.length_pendingList {s : State} (law : s.RankLaw) : s.pendingList.length = s.pendingCavities := by
  have hlength : s.pendingList.length =
      (s.ageOrder.map fun i => (List.finRange 8).countP fun j => decide (s.Pending i j)).sum := by
    rw [State.pendingList, List.length_flatMap]
    exact congrArg List.sum (List.map_congr_left fun i _ => by rw [List.length_map, List.countP_eq_length_filter])
  rw [hlength, s.pendingCavities_eq, ← List.sum_toFinset _ s.ageOrder_nodup, ← Fin.sum_univ_def]
  refine Finset.sum_subset (Finset.subset_univ _) fun i _ hi => ?_
  have hfree : ¬(s.row i).state ≠ .free := fun hs => hi (List.mem_toFinset.2 ((State.mem_ageOrder law i).2 hs))
  exact List.countP_eq_zero.2 fun j _ hj => hfree (of_decide_eq_true hj).live

/-! ### The cavities are forced and noted (R25 step 1) -/

/-- The state in which the pending cavities are forced and noted. -/
def State.forced (s : State) : State := { s with rows := s.rows.map (Row.forceCleared s.clock) }

theorem State.forced_row (s : State) (i : Fin 8) : s.forced.row i = { s.row i with cavities := (s.forced.row i).cavities } := by
  rw [State.row, State.forced, Vec.get_map]
  rfl

theorem State.forced_cavity (s : State) (i j : Fin 8) : s.forced.cavity i j =
    if s.Pending i j then
      { (s.cavity i j).giveNote .clearedByCell (noteOffset s.clock (s.row i)) with
        cure := if (s.cavity i j).cure = .curing then .forced else (s.cavity i j).cure }
    else s.cavity i j := by
  rw [State.cavity, State.row, State.forced, Vec.get_map, Row.forceCleared, Row.mapCavities, Vec.get_map]
  exact if_congr (s.isPending_iff i j) rfl rfl

/-- Forcing and noting keeps charge, tool status and record. -/
theorem State.forced_alike (s : State) (i j : Fin 8) : (s.cavity i j).Alike (s.forced.cavity i j) := by
  rw [State.forced_cavity]
  split
  · exact (Cavity.giveNote_alike _ _ _).trans ⟨rfl, rfl, rfl, rfl, rfl, rfl⟩
  · exact .refl _

theorem State.forced_state (s : State) (i : Fin 8) : (s.forced.row i).state = (s.row i).state := by rw [State.forced_row]

theorem State.forced_ageOrder (s : State) : s.forced.ageOrder = s.ageOrder :=
  State.ageOrder_congr s.forced_state fun i => by rw [State.forced_row]

theorem State.forced_pending (s : State) (i j : Fin 8) : s.forced.Pending i j ↔ s.Pending i j := by
  simp only [State.Pending, Row.Pressed, State.forced_state, (s.forced_alike i j).charge, (s.forced_alike i j).record]

theorem State.forced_pendingList (s : State) : s.forced.pendingList = s.pendingList := by
  simp only [State.pendingList, State.forced_ageOrder, State.forced_pending]

/-! ### The records become due (R25 step 3) -/

/-- A due record leaves the other cavities and the states of rows alone. -/
theorem State.recordDue_cavity_ne (s : State) {i j m n : Fin 8} (o : ToolOutcome) (h : (i, j) ≠ (m, n)) :
    (s.recordDue i j o).cavity m n = s.cavity m n := by
  rw [State.cavity_congr (s.recordDue_rows i j o), State.cavity_modifyCavity_ne s _ h]

theorem State.dueCleared_cavity_ne {l : List (Fin 8 × Fin 8)} {s : State} {i j : Fin 8} (h : (i, j) ∉ l) :
    (s.dueCleared l).cavity i j = s.cavity i j := by
  induction l generalizing s with
  | nil => rfl
  | cons p l ih =>
    rw [List.mem_cons, not_or] at h
    exact (ih h.2).trans (State.recordDue_cavity_ne s _ (Ne.symm h.1))

/-- Whether CELL_CLEAR makes the record of a cavity due. -/
def State.clearDueNow (s : State) (p : Fin 8 × Fin 8) : Bool :=
  (s.row p.1).isPending (s.cavity p.1 p.2) && (s.cavity p.1 p.2).record == .notDue

/-- Cavities looked at one after the other, each once: those that are due at the start have their records made due. -/
theorem State.foldl_clearDue {l : List (Fin 8 × Fin 8)} (nodup : l.Nodup) (s : State) :
    l.foldl (fun t p => State.clearDue p.1 t p.2) s = s.dueCleared (l.filter s.clearDueNow) := by
  induction l generalizing s with
  | nil => rfl
  | cons p l ih =>
    rw [List.nodup_cons] at nodup
    rw [List.foldl_cons, ih nodup.2]
    by_cases hdue : s.clearDueNow p = true
    · have hstep : State.clearDue p.1 s p.2 = s.recordDue p.1 p.2 .cleared := if_pos hdue
      have hsame : ∀ q ∈ l, (s.recordDue p.1 p.2 .cleared).clearDueNow q = s.clearDueNow q := fun q hq => by
        have hne : (p.1, p.2) ≠ (q.1, q.2) := fun he => nodup.1 (by rw [show p = q from he]; exact hq)
        simp only [State.clearDueNow, Row.isPending, Row.moulded, Row.inPress, State.recordDue_row_state,
          State.recordDue_cavity_ne s _ hne]
      rw [hstep, List.filter_congr hsame, List.filter_cons_of_pos hdue]
      rfl
    · have hstep : State.clearDue p.1 s p.2 = s := if_neg hdue
      rw [hstep, List.filter_cons_of_neg hdue]

/-- With no pending cavity QUEUED, the records of all pending cavities become due. -/
theorem State.clearAllDue_eq {s : State} (none : ∀ i j, (s.cavity i j).record ≠ .queued) :
    s.clearAllDue = s.dueCleared s.pendingList := by
  have hdue : ∀ p : Fin 8 × Fin 8, s.clearDueNow p = decide (s.Pending p.1 p.2) := fun p => by
    rw [Bool.eq_iff_iff, State.clearDueNow, Bool.and_eq_true, State.isPending_iff, decide_eq_true_iff]
    refine and_iff_left_of_imp fun hp => ?_
    have := none p.1 p.2
    cases hr : (s.cavity p.1 p.2).record <;> simp_all
  have hall : (s.ageOrder.flatMap fun i => (List.finRange 8).map fun j => (i, j)).Nodup :=
    List.nodup_flatMap.2 ⟨fun i _ => (List.nodup_finRange 8).map fun a b h => (Prod.mk.inj h).2,
      s.ageOrder_nodup.imp fun hne => List.disjoint_left.2 fun p hp hq => by
        obtain ⟨_, _, rfl⟩ := List.mem_map.1 hp
        obtain ⟨_, _, he⟩ := List.mem_map.1 hq
        exact hne (Prod.mk.inj he).1.symm⟩
  have hfold := State.foldl_clearDue hall s
  rw [List.foldl_flatMap] at hfold
  simp only [List.foldl_map] at hfold
  rw [State.clearAllDue, hfold, List.filter_flatMap]
  refine congrArg s.dueCleared (List.flatMap_congr fun i _ => ?_)
  rw [List.filter_map]
  refine congrArg _ (List.filter_congr fun j _ => hdue (i, j))

end Sys2Proof.Machine
end

section
/-! CELL_CLEAR as a whole: the reservations released, the weigh unit orphaned and cancelled, and what the accepted request
writes (R25). -/

namespace Sys2Proof.Machine

/-! ### The reservations of the rows before CLOSED (R25 step 4) -/

/-- The reserved cavities of a row in OPEN or CHARGED. -/
def Row.unmouldedReserved (r : Row) : Nat := if r.state = .open_ ∨ r.state = .charged then r.reservedCavities else 0

/-- The rows of a list give up their reservations against the slot that they name. -/
theorem foldl_releaseReserved {k : Fin 8} {s : State} (recipe : ∀ i, (s.row i).state ≠ .free → (s.row i).recipe = some k)
    (l : List (Fin 8)) (t : State) :
    l.foldl (fun t i => if (s.row i).state = .open_ ∨ (s.row i).state = .charged then
        t.releaseReserved (s.row i).recipe (s.row i).reservedCavities else t) t =
      { t with runs := t.runs.modify k fun e =>
          { e with reserved := e.reserved - (l.map fun i => (s.row i).unmouldedReserved).sum } } := by
  induction l generalizing t with
  | nil =>
    have : (t.runs.modify k fun e => { e with reserved := e.reserved - 0 }) = t.runs := Vec.set_get_self _ _
    rw [List.map_nil, List.sum_nil, List.foldl_nil, this]
  | cons i l ih =>
    rw [List.foldl_cons, ih, List.map_cons, List.sum_cons, Row.unmouldedReserved]
    by_cases hs : (s.row i).state = .open_ ∨ (s.row i).state = .charged
    · have live : (s.row i).state ≠ .free := by rcases hs with hs | hs <;> simp [hs]
      rw [if_pos hs, if_pos hs, recipe i live, State.releaseReserved_some]
      simp only [Vec.modify, Vec.get_set_self, Vec.set_set_self, Nat.sub_sub]
    · rw [if_neg hs, if_neg hs, Nat.zero_add]

/-- A cavity slot of a row before CLOSED is reserved where it awaits or has its charge. -/
theorem Row.Fits.reservedFor_unmoulded {r : Row} (h : r.Fits) (unmoulded : r.state = .open_ ∨ r.state = .charged)
    {k : Fin 8} (hk : r.recipe = some k) : r.reservedFor k = r.reservedCavities := by
  have live : r.state ≠ .free := by rcases unmoulded with hs | hs <;> simp [hs]
  rw [Row.reservedFor_of_live live hk, Row.reservedCavities, Vec.count_eq]
  refine countP_finRange_congr fun j => ?_
  obtain ⟨-, -, -, -, hrec⟩ := h.unmoulded unmoulded j
  rw [Bool.eq_iff_iff]
  simp [Cavity.Reserved, hrec]

/-- Every reserved cavity is pending, or stands in a row before CLOSED. -/
theorem State.Core.reservedFor_eq {s : State} (h : s.Core) (none : ∀ i j, (s.cavity i j).record ≠ .queued) {i k : Fin 8}
    (recipe : (s.row i).state ≠ .free → (s.row i).recipe = some k) : (s.row i).reservedFor k =
      ((List.finRange 8).countP fun j => decide (s.Pending i j)) + (s.row i).unmouldedReserved := by
  have hfits := h.fits i
  by_cases hun : (s.row i).state = .open_ ∨ (s.row i).state = .charged
  · have live : (s.row i).state ≠ .free := by rcases hun with hs | hs <;> simp [hs]
    have hnone : (List.finRange 8).countP (fun j => decide (s.Pending i j)) = 0 := List.countP_eq_zero.2 fun j _ hj => by
      have := (of_decide_eq_true hj).1
      rcases hun with hs | hs <;> simp [Row.Pressed, hs] at this
    rw [hfits.reservedFor_unmoulded hun (recipe live), hnone, Row.unmouldedReserved, if_pos hun, Nat.zero_add]
  · rw [Row.unmouldedReserved, if_neg hun, Nat.add_zero]
    by_cases live : (s.row i).state = .free
    · rw [Row.reservedFor, if_neg fun hr => hr.1 live]
      exact (List.countP_eq_zero.2 fun j _ hj => (of_decide_eq_true hj).live live).symm
    · have hmoulded : (s.row i).Pressed ∨ (s.row i).state = .opened := by
        cases hs : (s.row i).state <;> simp_all [Row.Pressed]
      rw [Row.reservedFor_of_live live (recipe live)]
      refine countP_finRange_congr fun j => decide_eq_decide.2 ?_
      have hnot : (s.cavity i j).charge ≠ .awaitCharge ∧ (s.cavity i j).record ≠ .queued := by
        refine ⟨?_, none i j⟩
        rcases hmoulded with hp | ho
        · rcases hfits.pressed_cavity hp j with hb | hc
          · exact hb.1
          · exact hc.1.trans_ne (by decide)
        · rcases h.fitsState ho j with hb | hc
          · exact hb.1
          · exact hc.1.trans_ne (by decide)
      have hrecord : (s.cavity i j).record = .notDue ↔ (s.cavity i j).record ≠ .recorded := by
        cases hr : (s.cavity i j).record <;> simp_all
      change ((s.cavity i j).charge = _ ∨ (s.cavity i j).charge = _) ∧ (s.cavity i j).record = _ ↔ _
      simp only [State.Pending, hmoulded, hrecord, hnot.1, false_or, true_and]

/-- The reservations are the pending cavities and those of the rows before CLOSED. -/
theorem State.Core.reserved_eq {s : State} (h : s.Core) (none : ∀ i j, (s.cavity i j).record ≠ .queued) {k : Fin 8}
    (recipe : ∀ i, (s.row i).state ≠ .free → (s.row i).recipe = some k) : (s.runs.get k).reserved =
      s.pendingCavities + ((List.finRange 8).map fun i => (s.row i).unmouldedReserved).sum := by
  rw [h.reserved.count, s.pendingCavities_eq, ← Fin.sum_univ_def, ← Fin.sum_univ_def, ← Finset.sum_add_distrib]
  exact Finset.sum_congr rfl fun i _ => h.reservedFor_eq none (recipe i)

/-! ### No record waits where CELL_CLEAR is accepted (R24) -/

section
variable {s : State} (h : s.Core) (room : s.pendingCavities ≤ 64 - s.ring.length)
include h room

/-- A QUEUED cavity would be pending while the ring is full. -/
theorem State.Core.none_queued (i j : Fin 8) : (s.cavity i j).record ≠ .queued := by
  intro hq
  have hfull := h.queue.full (List.ne_nil_of_mem ((h.queue.queued i j).1 hq))
  obtain ⟨opened, hcharge, -⟩ := (h.fits i).opened_of_demoulded (j := j) (.inl (hq.trans_ne (by decide)))
  have hpending : s.Pending i j := ⟨.inr opened, hcharge, hq.trans_ne (by decide)⟩
  have hzero : s.pendingCavities = 0 := by omega
  rw [s.pendingCavities_eq, ← Fin.sum_univ_def, Finset.sum_eq_zero_iff] at hzero
  exact List.countP_eq_zero.1 (hzero i (Finset.mem_univ i)) j (List.mem_finRange j) (decide_eq_true hpending)

theorem State.Core.queue_nil : s.recordQueue = [] :=
  List.eq_nil_iff_forall_not_mem.2 fun p hp => h.none_queued room p.1 p.2 ((h.queue.queued p.1 p.2).2 hp)

end

/-- The rows that are not FREE name one recipe slot (R4). -/
theorem State.Core.exists_recipe {s : State} (h : s.Core) :
    ∃ k, ∀ i, (s.row i).state ≠ .free → (s.row i).recipe = some k := by
  by_cases hlive : ∃ i, (s.row i).state ≠ .free
  · obtain ⟨i, hi⟩ := hlive
    obtain ⟨k, hk⟩ := Option.ne_none_iff_exists'.1 ((h.fits i).named hi).1
    exact ⟨k, fun m hm => (h.table.oneRecipe m i hm hi).trans hk⟩
  · exact ⟨0, fun i hi => absurd ⟨i, hi⟩ hlive⟩

/-! ### The weigh unit (R25 steps 5 and 7, R95) -/

/-- The weigh unit after the rows of a condition are freed. -/
def WeighUnit.orphanAll (w : WeighUnit) (freed : Fin 8 → Prop) [DecidablePred freed] : WeighUnit :=
  { w with
    run := w.run.map fun run =>
      { run with ticket := run.ticket.map fun t => { t with orphaned := t.orphaned || decide (freed t.row) } }
    result := w.result.map fun r => { r with orphaned := r.orphaned || decide (freed r.row) } }

theorem WeighUnit.orphan_eq (w : WeighUnit) (i : Fin 8) : w.orphan i = w.orphanAll fun m => m = i := by
  have hticket : ∀ t : WeighTicket, (if t.row = i then { t with orphaned := true } else t) =
      { t with orphaned := t.orphaned || decide (t.row = i) } := fun t => by split <;> simp [*]
  have hresult : ∀ r : WeighResult, (if r.row = i then { r with orphaned := true } else r) =
      { r with orphaned := r.orphaned || decide (r.row = i) } := fun r => by split <;> simp [*]
  simp only [WeighUnit.orphan, WeighUnit.orphanAll, hticket, hresult]

theorem WeighUnit.orphanAll_orphanAll (w : WeighUnit) (a b c : Fin 8 → Prop) [DecidablePred a] [DecidablePred b]
    [DecidablePred c] (h : ∀ i, c i ↔ a i ∨ b i) : (w.orphanAll a).orphanAll b = w.orphanAll c := by
  simp only [WeighUnit.orphanAll, Option.map_map, Function.comp_def, Bool.or_assoc, h, Bool.decide_or]

theorem WeighUnit.foldl_orphan (freed : Fin 8 → Bool) (l : List (Fin 8)) (w : WeighUnit) :
    l.foldl (fun w i => if freed i then w.orphan i else w) w = w.orphanAll fun i => i ∈ l ∧ freed i = true := by
  induction l generalizing w with
  | nil => simp [WeighUnit.orphanAll]
  | cons i l ih =>
    rw [List.foldl_cons, ih]
    by_cases hi : freed i = true
    · rw [if_pos hi, WeighUnit.orphan_eq]
      refine WeighUnit.orphanAll_orphanAll _ _ _ _ fun m => ?_
      rw [List.mem_cons]
      constructor
      · rintro ⟨rfl | hm, hf⟩
        · exact .inl rfl
        · exact .inr ⟨hm, hf⟩
      · rintro (rfl | hm)
        · exact ⟨.inl rfl, hi⟩
        · exact ⟨.inr hm.1, hm.2⟩
    · rw [if_neg hi]
      have : ∀ m, m ∈ i :: l ∧ freed m = true ↔ m ∈ l ∧ freed m = true := fun m => by
        rw [List.mem_cons]
        exact and_congr_left fun hf => or_iff_right fun he => hi (he ▸ hf)
      simp only [WeighUnit.orphanAll, this]

/-! ### The accepted request (R25) -/

/-- The state in which every row of an accepted CELL_CLEAR is freed. -/
abbrev State.cellEmptied (s : State) : State := s.forced.flushQueue.clearAllDue.releaseUnmoulded.freeAll

/-- How many of the records that CELL_CLEAR writes are GOOD. -/
abbrev State.clearGood (s : State) : Nat := s.forced.goodAmong s.pendingList

/-- What an accepted CELL_CLEAR writes up to the freeing of the rows (R25 steps 1 to 5). -/
theorem State.Core.cellEmptied_eq {s : State} (h : s.Core) (law : s.ports.records.NoticeLaw)
    (room : s.pendingCavities ≤ 64 - s.ring.length) {k : Fin 8}
    (recipe : ∀ i, (s.row i).state ≠ .free → (s.row i).recipe = some k) :
    s.cellEmptied = { s with
      rows := .replicate 8 Row.freed
      runs := s.runs.set k { (s.runs.get k).accountAll s.pendingCavities s.clearGood with reserved := 0 }
      recordQueue := []
      ring := s.ring ++ s.pendingList.map s.forced.clearRecord
      weigh := s.weigh.orphanAll fun i => (s.row i).state ≠ .free
      ports := { s.ports with
        press := s.ports.press.raiseIf ((s.runs.get k).CompletedBy s.clearGood) .runComplete
        charge := s.ports.charge.raiseIf ((s.runs.get k).CompletedBy s.clearGood) .runComplete
        records := s.ports.records.afterDue ((s.runs.get k).CompletedBy s.clearGood) s.ring.length
          (s.ring.length + s.pendingCavities) } } := by
  have none := h.none_queued room
  have hlength : s.pendingList.length = s.pendingCavities := State.length_pendingList h.rankLaw
  have hflush : s.forced.flushQueue = s.forced := by
    simp only [State.flushQueue, State.forced, h.queue_nil room, List.foldl_nil]
  have hdue : s.forced.clearAllDue = s.forced.dueCleared s.pendingList := by
    rw [State.clearAllDue_eq fun i j => by rw [(s.forced_alike i j).record]; exact none i j, State.forced_pendingList]
  obtain ⟨heq, hrow⟩ := State.dueCleared_eq (s := s.forced) (k := k) s.pendingList_nodup
    (fun p hp => by rw [s.forced_row]; exact recipe p.1 (State.mem_pendingList hp).live)
    (by
      rw [hlength]
      change s.ring.length + _ ≤ 64
      have := h.queue.capacity
      omega) law
  obtain ⟨t, ht⟩ : ∃ t, t = s.forced.dueCleared s.pendingList := ⟨_, rfl⟩
  rw [← ht] at heq hrow hdue
  have hframe : ∀ i, t.row i = { s.row i with cavities := (t.row i).cavities } := fun i => by rw [hrow, s.forced_row]
  have hunmoulded : ∀ i, (t.row i).unmouldedReserved = (s.row i).unmouldedReserved := fun i => by
    have hstate : (t.row i).state = (s.row i).state := by rw [hframe]
    unfold Row.unmouldedReserved
    rw [hstate]
    split
    · next hs =>
      have hnot : ∀ j, ¬s.Pending i j := fun j hp => by
        have := hp.1
        rcases hs with hs | hs <;> simp [Row.Pressed, hs] at this
      have hcavities : (t.row i).cavities = (s.row i).cavities := Vec.ext_get fun j => by
        change t.cavity i j = s.cavity i j
        rw [ht, State.dueCleared_cavity_ne fun hmem => hnot j (State.mem_pendingList hmem), State.forced_cavity,
          if_neg (hnot j)]
      rw [Row.reservedCavities, Row.reservedCavities, hcavities]
    · rfl
  have hrelease := foldl_releaseReserved (s := t) (k := k)
    (fun i hi => by rw [hframe] at hi ⊢; exact recipe i hi) (List.finRange 8) t
  have hzero : t.runs.modify k (fun e => { e with
        reserved := e.reserved - ((List.finRange 8).map fun i => (t.row i).unmouldedReserved).sum }) =
      s.runs.set k { (s.runs.get k).accountAll s.pendingCavities s.clearGood with reserved := 0 } := by
    have hreserved := h.reserved_eq none recipe
    rw [(congrArg State.runs heq :)]
    have hnone : (s.runs.get k).reserved - s.pendingCavities -
        ((List.finRange 8).map fun i => (s.row i).unmouldedReserved).sum = 0 := by omega
    simp only [Vec.modify, Vec.get_set_self, Vec.set_set_self, hunmoulded, hlength]
    exact congrArg (fun n => s.runs.set k { (s.runs.get k).accountAll s.pendingCavities s.clearGood with reserved := n }) hnone
  have hweigh : (List.finRange 8).foldl (fun w i => if (t.row i).live then w.orphan i else w) t.weigh =
      s.weigh.orphanAll fun i => (s.row i).state ≠ .free := by
    have hlive : ∀ i, (i ∈ List.finRange 8 ∧ (t.row i).live = true) ↔ (s.row i).state ≠ .free := fun i => by
      rw [hframe]
      simp [Row.live]
    rw [WeighUnit.foldl_orphan (fun i => (t.row i).live), (congrArg State.weigh heq :)]
    simp only [WeighUnit.orphanAll, hlive]
    rfl
  unfold State.cellEmptied
  rw [hflush, hdue, State.releaseUnmoulded, hrelease, hzero]
  refine (congrArg (fun w => { t with
    runs := s.runs.set k { (s.runs.get k).accountAll s.pendingCavities s.clearGood with reserved := 0 }
    recordQueue := []
    rows := .replicate 8 Row.freed
    weigh := w }) hweigh).trans ?_
  rw [heq, hlength]
  rfl

end Sys2Proof.Machine
end

section
/-! The end of an accepted CELL_CLEAR (R25 steps 6 to 8), and its statement. -/

namespace Sys2Proof.Machine

/-- The weigh unit after its run in flight is cancelled (R85, R90, R93). -/
def WeighUnit.cancelled (w : WeighUnit) (now : Clock) : WeighUnit :=
  w.run.elim w fun run => run.ticket.elim
    { w with run := none, tareOutcome := some (.cancelled, none) }
    fun t => { w with
      run := none
      result := some
        { shot := t.shot, cavity := t.cavity, row := t.row, gross := none, net := none, cls := .cancelled,
          attempt := t.attempt, samples := run.samples, time := now, admitted := false, orphaned := t.orphaned } }

/-- A tare run is in flight. -/
abbrev WeighUnit.Taring (w : WeighUnit) : Prop := ∃ run, w.run = some run ∧ run.ticket = none

/-- A weigh run is in flight. -/
abbrev WeighUnit.Weighing (w : WeighUnit) : Prop := ∃ run, w.run = some run ∧ run.ticket ≠ none

theorem State.endRun_cancelled_eq (s : State) : s.endRun .cancelled = { s with
    weigh := s.weigh.cancelled s.clock
    ports := { s.ports with
      charge := (s.ports.charge.raiseIf s.weigh.Weighing .weighDone).raiseIf s.weigh.Taring .tareDone } } := by
  rcases Option.eq_none_or_eq_some s.weigh.run with hrun | ⟨run, hrun⟩
  · rw [State.endRun_none hrun]
    simp [WeighUnit.cancelled, hrun, Port.raiseIf, WeighUnit.Weighing, WeighUnit.Taring]
  · cases hticket : run.ticket with
    | none =>
      rw [State.endRun_tare hrun hticket]
      simp only [WeighUnit.cancelled, hrun, hticket, Port.raiseIf, WeighUnit.Weighing, WeighUnit.Taring, Option.elim_some,
        Option.elim_none, Option.some.injEq, exists_eq_left', ne_eq, not_true_eq_false, if_true, if_false]
      rfl
    | some t =>
      rw [State.endRun_weigh hrun hticket]
      simp only [WeighUnit.cancelled, hrun, hticket, Port.raiseIf, WeighUnit.Weighing, WeighUnit.Taring, Option.elim_some,
        Option.some.injEq, exists_eq_left', ne_eq, reduceCtorEq, not_false_eq_true, if_true, if_false]
      rfl

theorem State.withdrawGrant_eq (s : State) : s.withdrawGrant = { s with
    extraction := { s.extraction with grant := none }
    ports := { s.ports with extract := s.ports.extract.raiseIf (s.extraction.grant ≠ none) .grantRevoked } } := by
  unfold State.withdrawGrant
  split
  · next g hg =>
    simp only [hg, Port.raiseIf, ne_eq, reduceCtorEq, not_false_eq_true, if_true]
    rfl
  · next hg =>
    have hsame : ({ s.extraction with grant := none } : Extraction) = s.extraction := by rw [← hg]
    rw [hsame, Port.raiseIf, if_neg (not_not.2 hg)]

theorem State.cellToolClear_eq (s : State) : s.cellToolClear = { s with
    extraction := { s.extraction with uncleared := 0 }
    ports := { s.ports with press := s.ports.press.raiseIf (0 < s.extraction.uncleared) .toolClear } } := by
  unfold State.cellToolClear Port.raiseIf
  split <;> rfl

/-- What CELL_CLEAR writes once every row is freed (R25 steps 6 to 8). -/
theorem State.endCleared_eq (s : State) : ((s.withdrawGrant.endRun .cancelled).cellToolClear).startIdle = { s with
    extraction := { s.extraction with grant := none, uncleared := 0 }
    weigh := s.weigh.cancelled s.clock
    ports := {
      press := s.ports.press.raiseIf (0 < s.extraction.uncleared) .toolClear
      charge := (s.ports.charge.raiseIf s.weigh.Weighing .weighDone).raiseIf s.weigh.Taring .tareDone
      extract := s.ports.extract.raiseIf (s.extraction.grant ≠ none) .grantRevoked
      records := s.ports.records }
    regulator := { s.regulator with idleTimer := some s.clock } } := by
  rw [State.withdrawGrant_eq, State.endRun_cancelled_eq, State.cellToolClear_eq]
  rfl

theorem State.clearCell_eq (s : State) :
    s.clearCell = ((s.cellEmptied.withdrawGrant.endRun .cancelled).cellToolClear).startIdle := rfl

/-- CELL_CLEAR keeps the laws. -/
theorem State.Core.clearCell {s : State} (h : s.Core) (law : s.ports.records.NoticeLaw)
    (room : s.pendingCavities ≤ 64 - s.ring.length) : s.clearCell.Core := by
  obtain ⟨k, recipe⟩ := h.exists_recipe
  rw [s.clearCell_eq, h.cellEmptied_eq law room recipe, State.endCleared_eq]
  refine .ofFreed ?_ rfl rfl (fun m => ?_) h.store h.platen
  · have := h.queue.capacity
    rw [List.length_append, List.length_map, State.length_pendingList h.rankLaw]
    omega
  · rw [Vec.get_set]
    split
    · rfl
    · next hm =>
      rw [h.reserved.count]
      refine rowSum_eq_zero fun i => ?_
      by_cases live : (s.rows.get i).state = .free
      · exact if_neg fun hr => hr.1 live
      · exact Row.reservedFor_of_ne fun he => hm (Option.some.inj ((recipe i live).symm.trans he))

end Sys2Proof.Machine
end

section
/-! Every event keeps the laws of rows, grant, records, reservations and recipe store. -/

namespace Sys2Proof.Machine

theorem State.Core.event {s t : State} (h : s.Core) (r : s.InRange) (e : s.Event t) : t.Core := by
  cases e with
  | quiet | link | polled | raised | streamer | statusSent | itemQueued | zones | sampleError | duties | frameOpened
  | slotStarted | frameTimers | locked => exact h
  | frameClosed => exact h.closeFrame
  | platenReady warming => exact { h with platen := ⟨iff_of_false nofun fun hn =>
      absurd (warming.symm.trans (h.platen.off.2 hn)) nofun, h.platen.slot⟩ }
  | platenMoved p recipe on valid => exact h.platenMoved on valid
  | platenOff => exact h.enterOff
  | settingsWritten es => exact h.settingsWritten es
  | runSet k mode quantity room => exact h.runSet room
  | writeStarted k r unused passes => exact h.writeStarted unused passes
  | writeCompleted w held => exact h.writeCompleted held
  | rowTaken i k shot free range fresh valid settled running => exact h.rowTaken free range fresh valid settled running
  | aborted i unmoulded => exact h.aborted unmoulded
  | freed i freeable => exact h.freed freeable
  | permitted i charged => exact h.permitted charged
  | closed i unmoulded alone => exact h.closedOn unmoulded alone
  | released i curing released => exact h.released curing released
  | timedOut i curing => exact h.timedOut curing
  | cureStepped i running => exact h.cureStepped running
  | pressOpened i pressed => exact h.pressOpened pressed
  | attempted i j n live => exact h.modifyCavity_alike live j ⟨rfl, rfl, rfl, rfl, rfl, rfl⟩ rfl rfl
  | noted i j kind offset live =>
    exact h.modifyCavity_alike live j (Cavity.giveNote_alike kind offset _) (Cavity.giveNote_cure kind offset _)
      (Cavity.giveNote_acc kind offset _)
  | admitted i j res target override opening awaits => exact h.admitted opening awaits res target override
  | granted i j shot opened named inTool none permits => exact h.granted opened named inTool none permits
  | ungranted g inputs kind offset held => exact h.ungranted held inputs kind offset
  | inputs inputs none => exact h.inputs inputs none
  | outcome i j o grant opened held reported => exact h.withOutcome opened held reported
  | cleared i j held => exact h.cleared held
  | windowClosed i opened => exact h.windowClosed opened
  | ringTurned => exact h.ringTurned
  | rowsTicked => exact h.rowsTicked
  | cellCleared room => exact h.clearCell (r.ports .records).notices room
  | reset strap => exact h.afterReset strap

/-- Every step keeps the laws. -/
theorem State.Lawful.step_core {s t : State} (h : s.Lawful) (hstep : step s = .next t) : t.Core :=
  (State.Reaches.keeps (P := fun u => u.Core ∧ u.InRange) (fun _ _ hu e => ⟨hu.1.event hu.2 e, hu.2.event e⟩)
    (step_reaches hstep) ⟨h.core, h.inRange⟩).1

end Sys2Proof.Machine
end

section
open Sys2Proof Sys2Proof.Machine

/-- Settles O6: the table and its ranks are part of what every event keeps. -/
theorem tableLawsKept : Obligations.TableLawsKept := fun _ _ h hstep =>
  ⟨(h.step_core hstep).tableLaw, (h.step_core hstep).rankLaw⟩

/-- Settles O7: the rows in the press, their timers and permits are part of what every event keeps. -/
theorem pressLawKept : Obligations.PressLawKept := fun _ _ h hstep => (h.step_core hstep).pressLaw

/-- Settles O8: each row fits its cavities after every event. -/
theorem cavityLawKept : Obligations.CavityLawKept := fun _ _ h hstep => (h.step_core hstep).cavityLaw

/-- Settles O9: the one grant is part of what every event keeps. -/
theorem grantLawKept : Obligations.GrantLawKept := fun _ _ h hstep => (h.step_core hstep).grantLaw

/-- Settles O10: the uncleared count moves with the cavities in the tool in every event. -/
theorem unclearedLawKept : Obligations.UnclearedLawKept := fun _ _ h hstep => (h.step_core hstep).unclearedLaw

/-- Settles O11: the ring and the record queue are part of what every event keeps. -/
theorem ringLawKept : Obligations.RingLawKept := fun _ _ h hstep => (h.step_core hstep).ringLaw

/-- Settles O12: the reserved counts move with the reserved cavities in every event. -/
theorem reservedLawKept : Obligations.ReservedLawKept := fun _ _ h hstep => (h.step_core hstep).reservedLaw

/-- Settles O13: the recipe store is part of what every event keeps. -/
theorem storeLawKept : Obligations.StoreLawKept := fun _ _ h hstep => (h.step_core hstep).storeLaw

/-- Settles O4: the reset state keeps the laws of the rows and their neighbours, and its values are in range. -/
theorem resetStateIsLawful : Obligations.ResetStateIsLawful := by
  have hcore := State.reset_core
  obtain ⟨hsettings, hnotices, hsupply, hcounts⟩ := State.reset.inRange_iff.1 State.reset_inRange
  exact {
    table := hcore.tableLaw
    ranks := hcore.rankLaw
    press := hcore.pressLaw
    cavities := hcore.cavityLaw
    grant := hcore.grantLaw
    uncleared := hcore.unclearedLaw
    ring := hcore.ringLaw
    reserved := hcore.reservedLaw
    store := hcore.storeLaw
    supply := hsupply
    settings := hsettings
    notices := hnotices
    counts := hcounts }

end

section
/-! The statement of CELL_CLEAR (R24, R25). -/

namespace Sys2Proof.Machine

theorem Port.raiseIf_congr {p q : Prop} [Decidable p] [Decidable q] (h : p ↔ q) (kind : NoticeKind) (x : Port) :
    x.raiseIf p kind = x.raiseIf q kind := by
  unfold Port.raiseIf
  exact if_congr h rfl rfl

/-- The records of the pending cavities, rows in age order, cavities in number order. -/
theorem State.clearRecords_eq (s : State) : s.pendingList.map s.forced.clearRecord =
    s.ageOrder.flatMap fun i => ((List.finRange 8).filter fun j => decide (s.Pending i j)).map fun j =>
      s.forced.freeze i j .cleared := by
  simp only [State.pendingList, List.map_flatMap, List.map_map, Function.comp_def]

section
variable {s : State} {k : Fin 8} (recipe : ∀ i, (s.row i).state ≠ .free → (s.row i).recipe = some k)
include recipe

/-- Every record that CELL_CLEAR writes names the running recipe. -/
theorem State.clearRecord_recipe {p : Fin 8 × Fin 8} (hp : p ∈ s.pendingList) :
    (s.forced.clearRecord p).recipe = k.val := by
  have : (s.forced.row p.1).recipe = some k := by
    rw [s.forced_row]
    exact recipe p.1 (State.mem_pendingList hp).live
  simp only [State.clearRecord, State.freeze, this, Option.map_some, Option.getD_some]

/-- The GOOD records that name a slot are those of the running recipe, or none. -/
theorem State.countP_good (m : Fin 8) : (s.pendingList.map s.forced.clearRecord).countP
    (fun r => decide (r.recipe = m.val ∧ r.verdict = .good)) = if m = k then s.clearGood else 0 := by
  rw [List.countP_map]
  split
  · next hm =>
    refine List.countP_congr fun p hp => ?_
    simp [State.clearRecord_recipe recipe hp, hm]
  · next hm =>
    refine List.countP_eq_zero.2 fun p hp => ?_
    have : ¬k.val = m.val := fun he => hm (Fin.ext he).symm
    simp [State.clearRecord_recipe recipe hp, this]

end

/-- The GOOD records of a COUNTED run are no more than its remaining quantity. -/
theorem State.Core.clearGood_le {s : State} (h : s.Core) (room : s.pendingCavities ≤ 64 - s.ring.length) {k : Fin 8}
    (recipe : ∀ i, (s.row i).state ≠ .free → (s.row i).recipe = some k) (counted : (s.runs.get k).mode = .counted) :
    s.clearGood ≤ (s.runs.get k).remaining := by
  have hgood : s.clearGood ≤ s.pendingList.length := List.countP_le_length
  have hlength : s.pendingList.length = s.pendingCavities := State.length_pendingList h.rankLaw
  have hreserved := h.reserved_eq (h.none_queued room) recipe
  have := h.reserved.within k counted
  omega

theorem WeighUnit.orphanAll_taring (w : WeighUnit) (freed : Fin 8 → Prop) [DecidablePred freed] :
    (w.orphanAll freed).Taring ↔ w.Taring := by
  rcases Option.eq_none_or_eq_some w.run with hr | ⟨run, hr⟩ <;> simp [WeighUnit.Taring, WeighUnit.orphanAll, hr]

theorem WeighUnit.orphanAll_weighing (w : WeighUnit) (freed : Fin 8 → Prop) [DecidablePred freed] :
    (w.orphanAll freed).Weighing ↔ w.Weighing := by
  rcases Option.eq_none_or_eq_some w.run with hr | ⟨run, hr⟩ <;> simp [WeighUnit.Weighing, WeighUnit.orphanAll, hr]

theorem exec_cellClear (s : State) : exec .cellClear s = respond .records (takeCellClear s) := rfl

/-- The state after an accepted CELL_CLEAR, with the running recipe in slot `k` (R25). -/
def State.cellCleared (s : State) (k : Fin 8) : State :=
  let complete := (s.runs.get k).CompletedBy s.clearGood
  { s with
    rows := .replicate 8 Row.freed
    runs := s.runs.set k { (s.runs.get k).accountAll s.pendingCavities s.clearGood with reserved := 0 }
    recordQueue := []
    ring := s.ring ++ s.pendingList.map s.forced.clearRecord
    extraction := { s.extraction with grant := none, uncleared := 0 }
    weigh := (s.weigh.orphanAll fun i => (s.row i).state ≠ .free).cancelled s.clock
    ports := {
      press := (s.ports.press.raiseIf complete .runComplete).raiseIf (0 < s.extraction.uncleared) .toolClear
      charge := ((s.ports.charge.raiseIf complete .runComplete).raiseIf s.weigh.Weighing .weighDone).raiseIf
        s.weigh.Taring .tareDone
      extract := s.ports.extract.raiseIf (s.extraction.grant ≠ none) .grantRevoked
      records := s.ports.records.afterDue complete s.ring.length (s.ring.length + s.pendingCavities) }
    regulator := { s.regulator with idleTimer := some s.clock }
    reply := some (.records, .plain .done) }

theorem State.Core.exec_cellClear {s : State} (h : s.Core) (law : s.ports.records.NoticeLaw)
    (room : s.pendingCavities ≤ 64 - s.ring.length) {k : Fin 8}
    (recipe : ∀ i, (s.row i).state ≠ .free → (s.row i).recipe = some k) :
    exec .cellClear s = .next (s.cellCleared k) := by
  have hexec : exec .cellClear s = .next (s.clearCell.withReply .records (.plain .done)) := by
    rw [Machine.exec_cellClear, takeCellClear, if_neg (show ¬Config.ringSlots - s.ring.length < _ from not_lt.2 room)]
    rfl
  rw [hexec, s.clearCell_eq, h.cellEmptied_eq law room recipe, State.endCleared_eq]
  dsimp only
  rw [Port.raiseIf_congr (WeighUnit.orphanAll_weighing s.weigh fun i => (s.row i).state ≠ .free),
    Port.raiseIf_congr (WeighUnit.orphanAll_taring s.weigh fun i => (s.row i).state ≠ .free)]
  rfl

/-- The run table entries after an accepted CELL_CLEAR. -/
theorem State.Core.clearedRun {s : State} (h : s.Core) {k : Fin 8}
    (recipe : ∀ i, (s.row i).state ≠ .free → (s.row i).recipe = some k) (m : Fin 8) :
    (s.runs.set k { (s.runs.get k).accountAll s.pendingCavities s.clearGood with reserved := 0 }).get m =
      { s.runs.get m with
        reserved := 0
        remaining := (s.runs.get m).remaining -
          if (s.runs.get m).mode = .counted ∧ m = k then s.clearGood else 0 } := by
  rw [Vec.get_set]
  split
  · next hm =>
    subst hm
    by_cases hmode : (s.runs.get k).mode = .counted <;> simp [RunEntry.accountAll, hmode]
  · next hm =>
    have hzero : (s.runs.get m).reserved = 0 := by
      rw [h.reserved.count]
      refine rowSum_eq_zero fun i => ?_
      by_cases live : (s.rows.get i).state = .free
      · exact if_neg fun hr => hr.1 live
      · exact Row.reservedFor_of_ne fun he => hm (Option.some.inj ((recipe i live).symm.trans he))
    rw [if_neg fun he => hm he.2.symm, Nat.sub_zero, ← hzero]

/-- The weigh unit after an accepted CELL_CLEAR, by what was in flight. -/
theorem WeighUnit.cancelled_orphanAll_idle {w : WeighUnit} (h : w.run = none) (freed : Fin 8 → Prop)
    [DecidablePred freed] (now : Clock) : (w.orphanAll freed).cancelled now =
      { w with result := w.result.map fun r => { r with orphaned := r.orphaned || decide (freed r.row) } } := by
  simp [WeighUnit.cancelled, WeighUnit.orphanAll, h]

theorem WeighUnit.cancelled_orphanAll_tare {w : WeighUnit} {run : SettleRun} (h : w.run = some run)
    (ht : run.ticket = none) (freed : Fin 8 → Prop) [DecidablePred freed] (now : Clock) :
    (w.orphanAll freed).cancelled now = { w with
      run := none
      tareOutcome := some (.cancelled, none)
      result := w.result.map fun r => { r with orphaned := r.orphaned || decide (freed r.row) } } := by
  simp [WeighUnit.cancelled, WeighUnit.orphanAll, h, ht]

theorem WeighUnit.cancelled_orphanAll_weigh {w : WeighUnit} {run : SettleRun} {t : WeighTicket} (h : w.run = some run)
    (ht : run.ticket = some t) (freed : Fin 8 → Prop) [DecidablePred freed] (now : Clock) :
    (w.orphanAll freed).cancelled now = { w with
      run := none
      result := some
        { shot := t.shot, cavity := t.cavity, row := t.row, gross := none, net := none, cls := .cancelled,
          attempt := t.attempt, samples := run.samples, time := now, admitted := false,
          orphaned := t.orphaned || decide (freed t.row) } } := by
  simp [WeighUnit.cancelled, WeighUnit.orphanAll, h, ht]

end Sys2Proof.Machine
end

section
open Sys2Proof Sys2Proof.Machine

/-- Settles O34: with no record QUEUED, the pending cavities are the list whose records become due one after the other while
the ring has room; the rest follows part by part. -/
theorem cellClearEmptiesTheCell : Obligations.CellClearEmptiesTheCell := by
  unfold Obligations.CellClearEmptiesTheCell
  intro s pending n
  have hn : s.pendingCavities = n := s.pendingCavities_eq
  refine ⟨fun hfull => ?full, fun law hroom => ?accepted⟩
  case full =>
    rw [exec_cellClear, takeCellClear, if_pos (by rw [hn]; exact hfull)]
    rfl
  case accepted =>
    have h := law.core
    have room : s.pendingCavities ≤ 64 - s.ring.length := by rw [hn]; exact hroom
    obtain ⟨k, recipe⟩ := h.exists_recipe
    refine ⟨s.cellCleared k, s.forced, s.ageOrder, h.exec_cellClear (law.notices .records) room recipe, ?_⟩
    intro offset written good completes raiseIf result
    have hwritten : written = s.pendingList.map s.forced.clearRecord := s.clearRecords_eq.symm
    have hgood : ∀ m, good m = if (s.runs.get m).mode = .counted ∧ m = k then s.clearGood else 0 := fun m => by
      dsimp only [good]
      rw [hwritten, State.countP_good recipe]
      by_cases hm : (s.runs.get m).mode = .counted <;> simp [hm]
    have hcompletes : (s.runs.get k).CompletedBy s.clearGood ↔ completes := by
      constructor
      · rintro ⟨hmode, hpos, hle⟩
        have := h.clearGood_le room recipe hmode
        exact ⟨k, by rw [hgood, if_pos ⟨hmode, rfl⟩]; omega, by rw [hgood, if_pos ⟨hmode, rfl⟩]; omega⟩
      · rintro ⟨m, hpos, heq⟩
        rw [hgood] at hpos heq
        split at hpos
        · next hm =>
          obtain ⟨hmode, rfl⟩ := hm
          rw [if_pos ⟨hmode, rfl⟩] at heq
          exact ⟨hmode, by omega, heq.ge⟩
        · exact absurd hpos (lt_irrefl 0)
    refine ⟨s.ageOrder_pairwise, State.mem_ageOrder law.ranks, rfl, s.forced_row, s.forced_cavity, ?length, ?outcome,
      fun i => ?rows, fun m => ?runs, fun hrun => ?idle, fun run hrun ht => ?tare, fun run w hrun ht => ?weigh, ?whole⟩
    case length => rw [hwritten, List.length_map, State.length_pendingList law.ranks, hn]
    case outcome =>
      rw [hwritten]
      intro r hr
      obtain ⟨p, -, rfl⟩ := List.mem_map.1 hr
      exact ⟨rfl, rfl⟩
    case rows => exact Vec.get_replicate _ _
    case runs =>
      rw [hgood]
      exact h.clearedRun recipe m
    case idle => exact WeighUnit.cancelled_orphanAll_idle hrun _ _
    case tare => exact WeighUnit.cancelled_orphanAll_tare hrun ht _ _
    case weigh => exact WeighUnit.cancelled_orphanAll_weigh hrun ht _ _
    case whole =>
      have hpress := Port.raiseIf_congr hcompletes .runComplete s.ports.press
      have hcharge := Port.raiseIf_congr hcompletes .runComplete s.ports.charge
      have hrecords := Port.raiseIf_congr hcompletes .runComplete s.ports.records
      rw [hwritten, State.cellCleared]
      simp only [hpress, hcharge, Port.afterDue, hrecords, hn]
      rfl
end

section
/-! The step and the smaller requests of the cycle table: freeing and aborting a row, the close permit, requests that name
no row, and the idle timer's expiry. -/

namespace Sys2Proof.Machine

/-! ### The step -/

/-- A conditional between two answers is an answer. -/
theorem exists_next_ite {c : Prop} [Decidable c] {a b : Host.Outcome State Fault Refusal} (ha : ∃ t, a = .next t)
    (hb : ∃ t, b = .next t) : ∃ t, (if c then a else b) = .next t := by
  split
  · exact ha
  · exact hb

theorem execSampleArrival_next (channel : Nat) (value : BitVec 16) (s : State) :
    ∃ t, execSampleArrival channel value s = .next t := by
  unfold execSampleArrival
  split
  · exact ⟨_, rfl⟩
  · exact exists_next_ite ⟨_, rfl⟩ ⟨_, rfl⟩

theorem execSlotStart_next (s : State) : ∃ t, execSlotStart s = .next t := by
  unfold execSlotStart
  split
  · exact exists_next_ite ⟨_, rfl⟩ ⟨_, rfl⟩
  · exact ⟨_, rfl⟩

theorem execInterlockChange_next (input : InterlockInput) (level : Bool) (s : State) :
    ∃ t, execInterlockChange input level s = .next t := by
  refine exists_next_ite ⟨_, rfl⟩ ?_
  cases s.extraction.grant with
  | none => exact ⟨_, rfl⟩
  | some g => exact exists_next_ite ⟨_, rfl⟩ ⟨_, rfl⟩

theorem execRecipeWriteComplete_next (strap : Bool) (s : State) : ∃ t, execRecipeWriteComplete strap s = .next t := by
  unfold execRecipeWriteComplete
  split <;> exact ⟨_, rfl⟩

theorem execFrameGapTimeout_next (p : PortId) (s : State) : ∃ t, execFrameGapTimeout p s = .next t := by
  unfold execFrameGapTimeout
  split <;> exact ⟨_, rfl⟩

/-- Every command is answered with a next state. -/
theorem exec_next (c : Instr) (s : State) : ∃ t, exec c s = .next t := by
  cases c with
  | sampleArrival channel value => exact execSampleArrival_next channel value s
  | slotStart => exact execSlotStart_next s
  | interlockChange input level => exact execInterlockChange_next input level s
  | recipeWriteComplete strap => exact execRecipeWriteComplete_next strap s
  | frameGapTimeout p => exact execFrameGapTimeout_next p s
  | idleExpiry => exact exists_next_ite ⟨_, rfl⟩ ⟨_, rfl⟩
  | cureStep i => exact exists_next_ite ⟨_, rfl⟩ ⟨_, rfl⟩
  | maxCureExpiry i => exact exists_next_ite ⟨_, rfl⟩ ⟨_, rfl⟩
  | demouldExpiry i => exact exists_next_ite (exists_next_ite ⟨_, rfl⟩ ⟨_, rfl⟩) ⟨_, rfl⟩
  | unitTimer => exact exists_next_ite ⟨_, rfl⟩ ⟨_, rfl⟩
  | reset strap => exact exists_next_ite ⟨_, rfl⟩ ⟨_, rfl⟩
  | _ => exact ⟨_, rfl⟩

theorem step_of_pending {s : State} {c : Instr} {rest : List Instr} (h : s.pending = c :: rest) :
    step s = exec c { s with pending := rest } := by
  simp only [step, h]

theorem step_of_empty {s : State} (h : s.pending = []) : step s = idleStep s := by
  simp only [step, h]

theorem idleStep_next (s : State) : ∃ t, idleStep s = .next t := by
  unfold idleStep
  split
  · exact ⟨_, rfl⟩
  · exact exec_next _ _

/-- Every step is answered with a next state. -/
theorem step_next (s : State) : ∃ t, step s = .next t := by
  cases h : s.pending with
  | nil =>
    rw [step_of_empty h]
    exact idleStep_next s
  | cons c rest =>
    rw [step_of_pending h]
    exact exec_next c _

/-! ### Requests that name a row -/

theorem exec_closePermit (shot : Nat) (s : State) :
    exec (.closePermit shot) s = respond .press (takeClosePermit shot s) := rfl

theorem exec_cycleQuery (p : PortId) (shot : Nat) (s : State) :
    exec (.cycleQuery p shot) s = respond p (takeCycleQuery shot s) := rfl

theorem exec_extractGrant (shot cavity : Nat) (s : State) :
    exec (.extractGrant shot cavity) s = respond .extract (takeExtractGrant shot cavity s) := rfl

theorem State.releaseReserved_of_some (s : State) (i : Fin 8) {k : Fin 8} (h : (s.row i).recipe = some k) :
    s.releaseReserved (s.row i).recipe (s.row i).reservedCavities = { s with
      runs := s.runs.set k { s.runs.get k with
        reserved := (s.runs.get k).reserved - (List.finRange 8).countP fun j =>
          decide ((s.cavity i j).charge = .awaitCharge ∨ (s.cavity i j).charge = .charged) } } := by
  have count : (s.row i).reservedCavities = (List.finRange 8).countP fun j =>
      decide ((s.cavity i j).charge = .awaitCharge ∨ (s.cavity i j).charge = .charged) := by
    rw [Row.reservedCavities, Vec.count_eq]
    refine countP_finRange_congr fun j => ?_
    rw [Bool.decide_or]
    rfl
  rw [h, State.releaseReserved_some, count]
  rfl

theorem Cavity.toolCleared_eq_false_iff (c : Cavity) : c.toolCleared = false ↔ c.InTool := by
  cases h : c.tool <;> simp [Cavity.toolCleared, Cavity.InTool, h]

/-- The reason of R14 that is met first, if one is. -/
theorem State.closeDenied_eq (s : State) (i : Fin 8)
    [Decidable (∃ k j, k ≠ i ∧ (s.row k).state ≠ .free ∧ (s.cavity k j).InTool)]
    [Decidable (∃ k, k ≠ i ∧ (s.row k).Pressed)] :
    s.closeDenied i =
      if (s.row i).state ≠ .charged then some .notCharged
      else if s.regulator.platen ≠ .ready then some .platenNotReady
      else if ∃ k j, k ≠ i ∧ (s.row k).state ≠ .free ∧ (s.cavity k j).InTool then some .toolNotClear
      else if ∃ k, k ≠ i ∧ (s.row k).Pressed then some .pressBusy
      else none := by
  have tool : (s.anyOther i fun r => r.live && r.cavities.any fun c => !c.toolCleared) = true ↔
      ∃ k j, k ≠ i ∧ (s.row k).state ≠ .free ∧ (s.cavity k j).InTool := by
    simp [State.anyOther, Vec.any_iff, Cavity.toolCleared_eq_false_iff, State.cavity]
  have press : s.anyOther i Row.inPress = true ↔ ∃ k, k ≠ i ∧ (s.row k).Pressed := by
    simp [State.anyOther, Row.inPress_iff]
  simp only [State.closeDenied, tool, press]

/-- The answer of CLOSE_PERMIT, the denial or the permit. -/
theorem takeClosePermit_of_names {s : State} {shot : Nat} {i : Fin 8} (h : s.Names shot i) :
    takeClosePermit shot s = match s.closeDenied i with
      | some why => (s, .deny why)
      | none => (s.setRow i { s.row i with permit := true }, .plain .granted) :=
  State.onShot_of_names h _

theorem exec_closePermit_denied {s : State} {shot : Nat} {i : Fin 8} {why : DenyReason} (h : s.Names shot i)
    (hd : s.closeDenied i = some why) :
    exec (.closePermit shot) s = .next { s with reply := some (.press, ⟨.denied, [.byte why.code]⟩) } := by
  rw [exec_closePermit, takeClosePermit_of_names h, hd]
  rfl

theorem exec_closePermit_granted {s : State} {shot : Nat} {i : Fin 8} (h : s.Names shot i) (hd : s.closeDenied i = none) :
    exec (.closePermit shot) s = .next { s with
      rows := s.rows.set i { s.row i with permit := true }
      reply := some (.press, ⟨.granted, []⟩) } := by
  rw [exec_closePermit, takeClosePermit_of_names h, hd]
  rfl

/-! ### Requests that name no row (R2) -/

theorem State.onCavity_malformed {s : State} {shot cavity : Nat} (h : shot = 0 ∨ 7 < cavity)
    (k : Fin 8 → Fin 8 → State × Reply) : s.onCavity shot cavity k = (s, .plain .malformed) := by
  by_cases hc : 7 < cavity
  · exact s.onCavity_of_range hc k
  · obtain rfl := h.resolve_right hc
    unfold State.onCavity
    split <;> rfl

/-- The three requests of the press port that look a shot up answer what the lookup answers, where it finds no row. -/
theorem shotRequests_answer {s : State} {shot : Nat} {code : ResultCode}
    (h : ∀ k, s.onShot shot k = (s, .plain code)) :
    exec (.abortCycle shot) s = .next { s with reply := some (.press, ⟨code, []⟩) } ∧
    exec (.closePermit shot) s = .next { s with reply := some (.press, ⟨code, []⟩) } ∧
    exec (.releaseQuery shot) s = .next { s with reply := some (.press, ⟨code, []⟩) } :=
  ⟨respond_plain (h _), respond_plain (h _), respond_plain (h _)⟩

/-- The five requests that look a shot and a cavity up answer what the lookup answers, where it finds none. -/
theorem cavityRequests_answer {s : State} {shot cavity : Nat} {code : ResultCode}
    (h : ∀ k, s.onCavity shot cavity k = (s, .plain code)) :
    exec (.weigh shot cavity) s = .next { s with reply := some (.charge, ⟨code, []⟩) } ∧
    exec (.admitCharge shot cavity) s = .next { s with reply := some (.charge, ⟨code, []⟩) } ∧
    exec (.admitOverride shot cavity) s = .next { s with reply := some (.charge, ⟨code, []⟩) } ∧
    exec (.extractGrant shot cavity) s = .next { s with reply := some (.extract, ⟨code, []⟩) } ∧
    exec (.clear shot cavity) s = .next { s with reply := some (.extract, ⟨code, []⟩) } :=
  ⟨respond_plain (h _), respond_plain (h _), respond_plain (h _), respond_plain (h _), respond_plain (h _)⟩

theorem takeCycleQuery_of_namesNone {s : State} {shot : Nat} (h : s.NamesNone shot) :
    takeCycleQuery shot s = (s, .plain .unknownShot) := by
  have : shot ≠ 0 := fun h0 => absurd h.1 (by subst h0; decide)
  rw [takeCycleQuery, if_neg this, State.onShot_of_namesNone h]

end Sys2Proof.Machine
end

section
open Sys2Proof Sys2Proof.Machine

/-- Settles O1: by definition. -/
theorem stepRunsTheFrontCommand : Obligations.StepRunsTheFrontCommand :=
  fun _ _ _ => step_of_pending rfl

/-- Settles O3: command by command. -/
theorem everyCommandIsAnswered : Obligations.EveryCommandIsAnswered := ⟨exec_next, step_next⟩

/-- Settles O25: the row is cleared, the ranks above its own close up, and the idle timer starts at the last row. -/
theorem freeingARowClosesTheRanks : Obligations.FreeingARowClosesTheRanks := by
  intro s i _ g hg
  have eq := s.freeRow_eq i
  refine ⟨?_, fun m hm => ?_, ?_, ?_, ?_⟩
  · rw [eq]
    exact s.clearRow_row_self i
  · rw [eq]
    refine (s.clearRow_row_ne hm.symm).trans ?_
    rw [hg, Row.closeRank_eq]
  · rw [eq]
    exact s.weigh.orphan_eq i
  · rw [eq]
  · rw [eq]
    rfl

/-- Settles O26: the request looks its row up and tests the row's state. -/
theorem abortCycleReleasesAndFrees : Obligations.AbortCycleReleasesAndFrees := by
  intro s shot i k hn hk
  have take : takeAbortCycle shot s = _ := State.onShot_of_names hn _
  refine ⟨fun h => ?_, fun ho hc => ?_⟩
  · rw [if_pos h, s.releaseReserved_of_some i hk] at take
    exact congrArg (respond .press) take
  · rw [if_neg (not_or.2 ⟨ho, hc⟩)] at take
    exact respond_plain take

open Classical in
/-- Settles O27: the four tests in their order. -/
theorem closePermitChecksFourConditions : Obligations.ClosePermitChecksFourConditions := by
  intro s shot i hn
  have eq := s.closeDenied_eq i
  refine ⟨fun hc => ?_, fun hc => ⟨fun hp => ?_, fun hp => ⟨fun ht => ?_, fun ht hb => ?_, fun ht hb => ?_⟩⟩⟩
  · exact exec_closePermit_denied hn (by rw [eq, if_pos hc])
  all_goals rw [if_neg (not_not.2 hc)] at eq
  · exact exec_closePermit_denied hn (by rw [eq, if_pos hp])
  all_goals rw [if_neg (not_not.2 hp)] at eq
  · exact exec_closePermit_denied hn (by rw [eq, if_pos ht])
  all_goals rw [if_neg ht] at eq
  · exact exec_closePermit_denied hn (by rw [eq, if_pos hb])
  · exact exec_closePermit_granted hn (by rw [eq, if_neg hb])

/-- Settles O33: each request answers what the lookup of its shot and cavity answers. -/
theorem unknownShotsChangeNothing : Obligations.UnknownShotsChangeNothing := by
  intro s shot cavity
  refine ⟨fun hn => ⟨?_, fun p => ?_, fun hc => ?_⟩, fun h0 => ?_, fun h => ?_⟩
  · exact shotRequests_answer (State.onShot_of_namesNone hn)
  · exact respond_plain (takeCycleQuery_of_namesNone hn)
  · exact cavityRequests_answer (State.onCavity_of_namesNone hn ⟨cavity, Nat.lt_succ_of_le hc⟩)
  · subst h0
    exact shotRequests_answer s.onShot_zero
  · exact cavityRequests_answer (State.onCavity_malformed h)

/-- Settles O37: only a platen that is heating enters STANDBY. -/
theorem idleExpiryEntersStandby : Obligations.IdleExpiryEntersStandby := by
  intro s start hstart
  refine ⟨_, execIdleExpiry_of_running hstart, ?_⟩
  unfold State.idleExpire
  by_cases h : s.regulator.platen = .warming ∨ s.regulator.platen = .ready
  · simp only [if_pos h, State.enterPlaten_eq]
    exact ⟨fun m => s.leaveReady_row m, trivial⟩
  · have hr : s.regulator.platen ≠ .ready := fun hr => h (.inr hr)
    simp only [if_neg h, if_neg hr]
    refine ⟨fun m => ?_, trivial⟩
    simp [State.row, hr]

end

section
/-! Physical reports that do not fit the table, and the two queries of the cycle table. -/

namespace Sys2Proof.Machine

/-! ### Physical reports that do not fit (R16, R109) -/

/-- A report that does not fit raises CELL_FAULT on two ports and sets the fault flag; nothing else changes. -/
theorem respond_misfit {p : PortId} {t : State × Reply} {s : State} {code : ResultCode} (h : t = s.misfit code) :
    respond p t = .next { s with
      ports := { s.ports with
        press := s.ports.press.raise .cellFault
        records := s.ports.records.raise .cellFault }
      streamer := { s.streamer with fault := true }
      reply := some (p, ⟨code, []⟩) } := by
  rw [h]
  rfl

section
variable {s : State} {shot : Nat}

theorem takeClosed_of_namesNone (h : s.NamesNone shot) : takeClosed shot s = s.misfit .unknownShot := by
  simp [takeClosed, (shotOk_iff shot).2 h.1, State.findShot_of_namesNone h]

theorem takeOpened_of_namesNone (h : s.NamesNone shot) : takeOpened shot s = s.misfit .unknownShot := by
  simp [takeOpened, (shotOk_iff shot).2 h.1, State.findShot_of_namesNone h]

theorem takeClosed_misfit {i : Fin 8} (h : s.Names shot i)
    (misfit : (s.row i).Pressed ∨ (s.row i).state = .opened ∨ ∃ m, m ≠ i ∧ (s.row m).Pressed) :
    takeClosed shot s = s.misfit .sequence := by
  simp only [takeClosed, (shotOk_iff shot).2 h.1, State.findShot_of_names h, if_true]
  split
  · rfl
  · next unmoulded =>
    have busy : s.anyOther i Row.inPress = true := by
      rcases misfit with (hs | hs) | hs | ⟨m, hm, hp⟩
      · simp [hs] at unmoulded
      · simp [hs] at unmoulded
      · simp [hs] at unmoulded
      · simpa [State.anyOther] using ⟨m, hm, (Row.inPress_iff _).2 hp⟩
    exact if_pos busy

theorem takeOpened_misfit {i : Fin 8} (h : s.Names shot i) (misfit : ¬(s.row i).Pressed) :
    takeOpened shot s = s.misfit .sequence := by
  simp only [takeOpened, (shotOk_iff shot).2 h.1, State.findShot_of_names h, if_true, Row.inPress_iff, if_neg misfit]

theorem reportedOutcome_isSome {outcome : Nat} (h : outcome = 1 ∨ outcome = 2) :
    ∃ o, reportedOutcome outcome = some o := by
  rcases h with rfl | rfl <;> exact ⟨_, rfl⟩

theorem reportedOutcome_eq_none {outcome : Nat} (h : outcome ≠ 1 ∧ outcome ≠ 2) : reportedOutcome outcome = none := by
  unfold reportedOutcome
  split
  · exact absurd rfl h.1
  · exact absurd rfl h.2
  · rfl

theorem takeExtractDone_of_namesNone (h : s.NamesNone shot) (j : Fin 8) {outcome : Nat}
    (ho : outcome = 1 ∨ outcome = 2) : takeExtractDone shot j.val outcome s = s.misfit .unknownShot := by
  obtain ⟨o, ho⟩ := reportedOutcome_isSome ho
  simp [takeExtractDone, (shotOk_iff shot).2 h.1, State.findShot_of_namesNone h, ho]

theorem takeExtractDone_misfit {i : Fin 8} (h : s.Names shot i) (misfit : (s.row i).state ≠ .opened) (j : Fin 8)
    {outcome : Nat} (ho : outcome = 1 ∨ outcome = 2) :
    takeExtractDone shot j.val outcome s = s.misfit .sequence := by
  obtain ⟨o, ho⟩ := reportedOutcome_isSome ho
  simp [takeExtractDone, (shotOk_iff shot).2 h.1, State.findShot_of_names h, ho, misfit]

theorem takeExtractDone_malformed {cavity outcome : Nat} (h : shot = 0 ∨ 7 < cavity ∨ (outcome ≠ 1 ∧ outcome ≠ 2)) :
    takeExtractDone shot cavity outcome s = (s, .plain .malformed) := by
  unfold takeExtractDone
  split
  · next hs hc ho =>
    rcases h with rfl | h | h
    · exact absurd hs (by decide)
    · rw [index8_eq_none h] at hc; cases hc
    · rw [reportedOutcome_eq_none h] at ho; cases ho
  · rfl

end

/-! ### RELEASE_QUERY (R19) -/

/-- The least of a list of numbers and a first one. -/
theorem foldl_min_spec (l : List Nat) (a : Nat) :
    l.foldl min a ≤ a ∧ (∀ x ∈ l, l.foldl min a ≤ x) ∧ (l.foldl min a = a ∨ l.foldl min a ∈ l) := by
  induction l generalizing a with
  | nil => simp
  | cons y l ih =>
    obtain ⟨low, all, mem⟩ := ih (min a y)
    rw [List.foldl_cons]
    refine ⟨low.trans (min_le_left a y), fun x hx => ?_, ?_⟩
    · rcases List.mem_cons.1 hx with rfl | hx
      · exact low.trans (min_le_right a x)
      · exact all x hx
    · rcases mem with mem | mem
      · rw [mem]
        rcases min_choice a y with h | h <;> simp [h]
      · exact .inr (List.mem_cons_of_mem y mem)

/-- The cure progress of a cavity as R19 gives it, before it is cut at 100. -/
abbrev Cavity.rawProgress (c : Cavity) : Nat := c.acc * 100 / (c.targetAdj.getD 0 * 256)

theorem Row.any_partBearing_iff (r : Row) :
    r.cavities.any Cavity.partBearing = true ↔ ∃ j, (r.cavities.get j).charge = .charged := by
  simp [Vec.any_iff, Cavity.partBearing]

theorem Row.progress_of_parts {r : Row} (h : ∃ j, (r.cavities.get j).charge = .charged) :
    r.progress ≤ 100 ∧
    (∀ j, (r.cavities.get j).charge = .charged → r.progress ≤ (r.cavities.get j).rawProgress) ∧
    (r.progress = 100 ∨ ∃ j, (r.cavities.get j).charge = .charged ∧ r.progress = (r.cavities.get j).rawProgress) := by
  rw [Row.progress, if_pos (r.any_partBearing_iff.2 h)]
  have members : ∀ n, n ∈ (r.cavities.toList.filter Cavity.partBearing).map Cavity.progress ↔
      ∃ j, (r.cavities.get j).charge = .charged ∧ min 100 (r.cavities.get j).rawProgress = n := by
    simp [Vec.toList_eq, Cavity.partBearing, Cavity.progress]
  obtain ⟨low, all, mem⟩ := foldl_min_spec ((r.cavities.toList.filter Cavity.partBearing).map Cavity.progress) 100
  refine ⟨low, fun j hj => (all _ ((members _).2 ⟨j, hj, rfl⟩)).trans (min_le_right _ _), mem.elim .inl fun hm => ?_⟩
  obtain ⟨j, hj, he⟩ := (members _).1 hm
  exact (min_choice 100 (r.cavities.get j).rawProgress).imp he.symm.trans fun hraw => ⟨j, hj, he.symm.trans hraw⟩

theorem Row.progress_of_no_part {r : Row} (h : ∀ j, (r.cavities.get j).charge ≠ .charged) :
    r.progress = if r.Pressed ∨ r.state = .opened then 100 else 0 := by
  have none : ¬r.cavities.any Cavity.partBearing = true := fun hp =>
    (r.any_partBearing_iff.1 hp).elim h
  rw [Row.progress, if_neg none]
  exact if_congr (by simp [Row.inPress_iff]) rfl rfl

theorem Row.progress_le (r : Row) : r.progress ≤ 100 := by
  by_cases h : ∃ j, (r.cavities.get j).charge = .charged
  · exact (Row.progress_of_parts h).1
  · rw [Row.progress_of_no_part fun j hj => h ⟨j, hj⟩]
    split <;> decide

/-! ### CYCLE_QUERY (R20, R21) -/

theorem timeFields_eq (t : Option Clock) :
    timeFields t = [.flag t.isSome, .long ((t.map BitVec.toNat).getD 0)] := by
  cases t <;> rfl

/-- The charge record and TARGET_ADJ of a cavity in CHARGED; zeros otherwise (log 10). -/
theorem Cavity.chargeFields_eq (c : Cavity) :
    c.chargeFields = match (if c.charge = .charged then c.chargeRec else none) with
      | some q => [.flag true, .word q.net, .byte q.cls.code, .flag q.override, .byte q.attempts,
          .long q.admitTime.toNat, .word (c.targetAdj.getD 0)]
      | none => [.flag false, .word 0, .byte 0, .flag false, .byte 0, .long 0, .word 0] := by
  have : (if c.partBearing then c.chargeRec else none) = if c.charge = .charged then c.chargeRec else none := by
    simp [Cavity.partBearing]
  rw [Cavity.chargeFields, this]
  cases (if c.charge = .charged then c.chargeRec else none) <;> rfl

theorem Cavity.statusFields_eq (c : Cavity) :
    c.statusFields = [.byte c.charge.code, .byte c.attempts, .byte c.cure.code, .byte c.tool.code,
      .byte c.record.code, .flag c.verdict.isSome, .byte ((c.verdict.map Verdict.code).getD 0)] := by
  rw [Cavity.statusFields]
  cases c.verdict <;> rfl

theorem Row.remainingFields_eq (r : Row) : optFields r.remainingSeconds 0 (fun n => [.word n]) =
    [.flag r.rowTimer.isSome, .word ((r.rowTimer.getD 0 + 999) / 1000)] := by
  rw [Row.remainingSeconds]
  cases r.rowTimer <;> rfl

/-- Every row that is not FREE stands in the age order once. -/
theorem State.length_ageOrder {s : State} (law : s.RankLaw) : s.ageOrder.length = s.liveRows := by
  rw [State.liveRows, List.countP_eq_length_filter]
  refine ((List.perm_ext_iff_of_nodup s.ageOrder_nodup ((List.nodup_finRange 8).filter _)).2 fun i => ?_).length_eq
  simp [State.mem_ageOrder law]

theorem State.runningRecipe_of_free {s : State} (h : ∀ m, (s.row m).state = .free) : s.runningRecipe = none := by
  have : s.rows.find Row.live = none := (Vec.find_eq_none_iff _ _).2 fun m => (Row.live_eq_false_iff _).2 (h m)
  rw [State.runningRecipe, this]

theorem State.runningRecipe_of_live {s : State} (law : s.TableLaw) {m : Fin 8} (h : (s.row m).state ≠ .free) :
    s.runningRecipe = (s.row m).recipe := by
  unfold State.runningRecipe
  split
  · next i hi => exact law.oneRecipe i m ((Row.live_iff _).1 (Vec.find_eq_some hi)) h
  · next hi => exact absurd ((Row.live_eq_false_iff _).1 ((Vec.find_eq_none_iff _ _).1 hi m)) h

end Sys2Proof.Machine
end

section
open Sys2Proof Sys2Proof.Machine

/-- Settles O29: the tests of the three reports, each with its answer. -/
theorem misfitReportsRaiseCellFault : Obligations.MisfitReportsRaiseCellFault := by
  intro s shot
  refine ⟨fun hn => ⟨?_, ?_, fun j outcome ho => ?_⟩, fun i hi => ⟨fun hm => ?_, fun hm => ?_, fun hm j outcome ho => ?_⟩,
    fun h0 => ?_, fun cavity outcome h => ?_⟩
  · exact respond_misfit (takeClosed_of_namesNone hn)
  · exact respond_misfit (takeOpened_of_namesNone hn)
  · exact respond_misfit (takeExtractDone_of_namesNone hn j ho)
  · exact respond_misfit (takeClosed_misfit hi hm)
  · exact respond_misfit (takeOpened_misfit hi hm)
  · exact respond_misfit (takeExtractDone_misfit hi hm j ho)
  · subst h0
    exact ⟨rfl, rfl⟩
  · exact respond_plain (takeExtractDone_malformed h)

/-- Settles O31: the queries answer the values of their rules and leave the state as it is. -/
theorem rowQueriesChangeNothing : Obligations.RowQueriesChangeNothing := by
  intro s
  refine ⟨fun shot i hn => ⟨⟨(s.row i).progress, ?_, ?_, ?_, ?_⟩, ?_, fun p => ?_⟩, fun p => rfl, fun table ranks => ?_⟩
  · exact (s.row i).progress_le
  · exact fun h => (Row.progress_of_parts h).2
  · exact Row.progress_of_no_part
  · exact congrArg (respond .press) (State.onShot_of_names hn _)
  · simp only [Row.statusFields, timeFields_eq, Row.remainingFields_eq, Vec.toList_eq, List.flatMap_map,
      Cavity.statusFields_eq, Cavity.chargeFields_eq, List.flatten_cons, List.flatten_nil, hn.2.2.1]
    simp only [State.cavity, List.append_nil, List.cons_append, List.nil_append]
    rfl
  · have : shot ≠ 0 := fun h0 => absurd hn.1 (by subst h0; decide)
    rw [exec_cycleQuery, takeCycleQuery, if_neg this, State.onShot_of_names hn]
    rfl
  · refine ⟨s.ageOrder, s.ageOrder_pairwise, State.mem_ageOrder ranks, slotFields s.runningRecipe, fun h => ?_,
      fun m k live hk => ?_, ?_⟩
    · rw [State.runningRecipe_of_free h]
      rfl
    · rw [State.runningRecipe_of_live table live, hk]
      rfl
    · rw [State.tableFields, State.liveCount_eq, listFields, State.length_ageOrder ranks]
      simp

end

section
/-! The step with no command waiting, and RESET. -/

namespace Sys2Proof.Machine

/-! ### The expiries that are due -/

theorem State.mem_dueTicks (s : State) (c : Instr) : c ∈ s.dueTicks ↔
    (c = .unitTimer ∧ s.streamer.unitTimer = 0) ∨
    (c = .frameStart ∧ s.firing.frameTimer = 0) ∨
    (c = .slotStart ∧ s.firing.slotTimer = 0 ∧ ∃ k, s.firing.slot = some k ∧ k < 99) := by
  rw [State.dueTicks]
  cases s.firing.slot with
  | none => simp [and_comm]
  | some k =>
    simp only [List.mem_append, List.mem_ite_nil_right, List.mem_singleton, or_assoc, Option.some.injEq,
      exists_eq_left']
    refine or_congr and_comm (or_congr and_comm ?_)
    rw [and_comm, and_comm (a := k < 99)]

theorem Row.mem_dueEvents (i : Fin 8) (r : Row) (c : Instr) : c ∈ r.dueEvents i ↔
    (c = .cureStep i ∧ r.stepTimer = some 0) ∨
    (c = .maxCureExpiry i ∧ r.state = .curing ∧ r.rowTimer = some 0) ∨
    (c = .demouldExpiry i ∧ r.state = .opened ∧ r.rowTimer = some 0) := by
  rw [Row.dueEvents]
  cases r.state <;> simp [and_comm]

theorem State.mem_dueTimeouts (s : State) (c : Instr) : c ∈ s.dueTimeouts ↔
    (c = .settleRunTimeout ∧ ∃ run, s.weigh.run = some run ∧ run.timeout ≤ elapsed s.clock run.start) ∨
    (c = .recipeWriteComplete s.pins.strap ∧ ∃ w, s.store.write = some w ∧ 40 ≤ elapsed s.clock w.accepted) ∨
    (c = .idleExpiry ∧ s.settings.idleLimit ≠ 0 ∧
      ∃ start, s.regulator.idleTimer = some start ∧ s.settings.idleLimit ≤ elapsed s.clock start / 1000) := by
  rw [State.dueTimeouts, ← s.idleReached_iff, Config.writeTime]
  cases s.weigh.run <;> cases s.store.write <;> simp [and_comm]

theorem State.gapExpired_iff (s : State) (p : PortId) :
    s.gapExpired p = true ↔ ∃ bytes at_, (s.port p).receiver = .inFrame bytes at_ ∧ 10 < elapsed s.clock at_ := by
  rw [State.gapExpired]
  cases (s.port p).receiver with
  | hunting => simp
  | inFrame bytes at_ =>
    refine decide_eq_true_iff.trans ⟨fun h => ⟨bytes, at_, rfl, h⟩, ?_⟩
    rintro ⟨_, _, h, lt⟩
    cases h
    exact lt

theorem mem_allPorts (p : PortId) : p ∈ allPorts := by cases p <;> decide

/-- What makes an expiry due: its timer has run down, or its time is reached. -/
def State.Due (s : State) (c : Instr) : Prop :=
  (c = .unitTimer ∧ s.streamer.unitTimer = 0) ∨
  (c = .frameStart ∧ s.firing.frameTimer = 0) ∨
  (c = .slotStart ∧ s.firing.slotTimer = 0 ∧ ∃ k, s.firing.slot = some k ∧ k < 99) ∨
  (∃ i, c = .cureStep i ∧ (s.row i).stepTimer = some 0) ∨
  (∃ i, c = .maxCureExpiry i ∧ (s.row i).state = .curing ∧ (s.row i).rowTimer = some 0) ∨
  (∃ i, c = .demouldExpiry i ∧ (s.row i).state = .opened ∧ (s.row i).rowTimer = some 0) ∨
  (c = .settleRunTimeout ∧ ∃ run, s.weigh.run = some run ∧ run.timeout ≤ elapsed s.clock run.start) ∨
  (c = .recipeWriteComplete s.pins.strap ∧ ∃ w, s.store.write = some w ∧ 40 ≤ elapsed s.clock w.accepted) ∨
  (c = .idleExpiry ∧ s.settings.idleLimit ≠ 0 ∧
    ∃ start, s.regulator.idleTimer = some start ∧ s.settings.idleLimit ≤ elapsed s.clock start / 1000) ∨
  (∃ p bytes at_, c = .frameGapTimeout p ∧ (s.port p).receiver = .inFrame bytes at_ ∧ 10 < elapsed s.clock at_)

/-- The expiries that an idle step may take are those that are due. -/
theorem State.mem_dueEvents (s : State) (c : Instr) : c ∈ s.dueEvents ↔ s.Due c := by
  have rows : c ∈ (List.finRange 8).flatMap (fun i => (s.row i).dueEvents i) ↔
      (∃ i, c = .cureStep i ∧ (s.row i).stepTimer = some 0) ∨
      (∃ i, c = .maxCureExpiry i ∧ (s.row i).state = .curing ∧ (s.row i).rowTimer = some 0) ∨
      (∃ i, c = .demouldExpiry i ∧ (s.row i).state = .opened ∧ (s.row i).rowTimer = some 0) := by
    simp only [List.mem_flatMap, List.mem_finRange, true_and, Row.mem_dueEvents, exists_or]
  have gaps : c ∈ (allPorts.filter s.gapExpired).map Instr.frameGapTimeout ↔
      ∃ p bytes at_, c = .frameGapTimeout p ∧ (s.port p).receiver = .inFrame bytes at_ ∧
        10 < elapsed s.clock at_ := by
    simp only [List.mem_map, List.mem_filter, mem_allPorts, true_and, s.gapExpired_iff]
    constructor
    · rintro ⟨p, ⟨bytes, at_, h⟩, rfl⟩
      exact ⟨p, bytes, at_, rfl, h⟩
    · rintro ⟨p, bytes, at_, rfl, h⟩
      exact ⟨p, ⟨bytes, at_, h⟩, rfl⟩
  simp only [State.dueEvents, List.mem_append, s.mem_dueTicks, rows, s.mem_dueTimeouts, gaps, State.Due, or_assoc]

/-! ### No expiry stands twice among those that are due -/

theorem State.dueTicks_nodup (s : State) : s.dueTicks.Nodup := by
  rw [State.dueTicks]
  cases s.firing.slot with
  | none => split <;> split <;> simp
  | some k => dsimp only; split <;> split <;> split <;> simp

theorem Row.dueEvents_nodup (i : Fin 8) (r : Row) : (r.dueEvents i).Nodup := by
  rw [Row.dueEvents]
  cases r.state <;> dsimp only <;> split <;> split <;> simp

theorem State.dueTimeouts_nodup (s : State) : s.dueTimeouts.Nodup := by
  rw [State.dueTimeouts]
  cases s.weigh.run <;> cases s.store.write <;> dsimp only <;> split_ifs <;> simp

theorem State.dueEvents_nodup (s : State) : s.dueEvents.Nodup := by
  have rows : ((List.finRange 8).flatMap fun i => (s.row i).dueEvents i).Nodup := by
    refine List.nodup_flatMap.2 ⟨fun i _ => (s.row i).dueEvents_nodup i, ?_⟩
    refine (List.nodup_finRange 8).imp fun {i k} hne c hi hk => ?_
    rw [Row.mem_dueEvents] at hi hk
    rcases hi with ⟨rfl, -⟩ | ⟨rfl, -⟩ | ⟨rfl, -⟩ <;> simp [hne] at hk
  have gaps : ((allPorts.filter s.gapExpired).map Instr.frameGapTimeout).Nodup :=
    ((by decide : allPorts.Nodup).filter _).map fun _ _ h => Instr.frameGapTimeout.inj h
  refine List.Nodup.append (List.Nodup.append (s.dueTicks_nodup.append rows fun c ht hr => ?_) s.dueTimeouts_nodup
    fun c ht hr => ?_) gaps fun c ht hr => ?_
  · obtain ⟨i, -, hr⟩ := List.mem_flatMap.1 hr
    rw [Row.mem_dueEvents] at hr
    rw [s.mem_dueTicks] at ht
    rcases hr with ⟨rfl, -⟩ | ⟨rfl, -⟩ | ⟨rfl, -⟩ <;> simp at ht
  · rw [s.mem_dueTimeouts] at hr
    rcases hr with ⟨rfl, -⟩ | ⟨rfl, -⟩ | ⟨rfl, -⟩ <;> simp [s.mem_dueTicks, Row.mem_dueEvents] at ht
  · obtain ⟨p, -, rfl⟩ := List.mem_map.1 hr
    simp [s.mem_dueTicks, Row.mem_dueEvents, s.mem_dueTimeouts] at ht

/-! ### The idle step -/

theorem idleStep_of_none_due {s : State} (h : ∀ c, ¬s.Due c) : idleStep s = .next s.tick := by
  have : s.dueEvents = [] := List.eq_nil_iff_forall_not_mem.2 fun c hc => h c ((s.mem_dueEvents c).1 hc)
  simp only [idleStep, this]

theorem idleStep_of_one_due {s : State} {c : Instr} (h : s.Due c) (only : ∀ other, s.Due other → other = c) :
    idleStep s = exec c s := by
  have : s.dueEvents = [c] := by
    refine List.perm_singleton.1 ((List.perm_ext_iff_of_nodup s.dueEvents_nodup (List.nodup_singleton c)).2 fun a => ?_)
    rw [s.mem_dueEvents, List.mem_singleton]
    exact ⟨only a, fun ha => ha ▸ h⟩
  simp only [idleStep, this]
  rfl

theorem chooseDue_mem (s : State) (e : Instr) (es : List Instr) : s.chooseDue e es ∈ e :: es := by
  cases es with
  | nil => exact List.mem_singleton_self e
  | cons f es =>
    have lt : Config.raceChoice s.raceCount % ((f :: es).length + 1) < (e :: f :: es).length :=
      Nat.mod_lt _ (Nat.succ_pos _)
    rw [State.chooseDue, List.getD_eq_getElem _ _ lt]
    exact List.getElem_mem lt

theorem idleStep_of_several_due {s : State} {c other : Instr} (h : s.Due c) (ho : s.Due other) (ne : other ≠ c) :
    ∃ first, s.Due first ∧ idleStep s = exec first { s with raceCount := s.raceCount + 1 } := by
  rw [← s.mem_dueEvents] at h ho
  match hd : s.dueEvents with
  | [] => rw [hd] at h; cases h
  | [e] =>
    rw [hd, List.mem_singleton] at h ho
    exact absurd (ho.trans h.symm) ne
  | e :: f :: es =>
    refine ⟨s.chooseDue e (f :: es), (s.mem_dueEvents _).1 (hd ▸ chooseDue_mem s e (f :: es)), ?_⟩
    simp only [idleStep, hd]
    rfl

/-! ### RESET (R145) -/

theorem Store.cut_eq (st : Store) (k : Fin 8) :
    st.cut k = if st.write.map WriteInFlight.slot = some k then .torn else (st.slots.get k).image := by
  rw [Store.cut]
  cases st.write <;> simp

theorem Store.verified_image (st : Store) (k : Fin 8) : (st.verified.get k).image = st.cut k := by
  rw [Store.verified, Vec.get_ofFn]

theorem Store.verified_validity (st : Store) (k : Fin 8) :
    (st.verified.get k).validity = ((st.verified.get k).image).verify := by
  rw [Store.verified, Vec.get_ofFn]

theorem exec_reset (strap : Bool) (s : State) : exec (.reset strap) s = .next
    { State.reset with
      pending := s.pending
      raceCount := s.raceCount
      pins := { s.pins with strap := strap }
      extraction := { State.reset.extraction with inputs := s.extraction.inputs }
      store := { slots := s.store.verified, lock := if strap then .locked else .unlocked, write := none }
      streamer := { State.reset.streamer with fault := s.store.verified.any fun k => k.validity == .corrupt }
      ports := { State.reset.ports with
        records := if s.store.verified.any fun k => k.validity == .corrupt then
          { Port.initial with notices := [.storeCorrupt], attention := true } else Port.initial } } := by
  change (if s.store.verified.any (fun k => k.validity == .corrupt) = true then _ else _) = _
  cases s.store.verified.any fun k => k.validity == .corrupt <;> rfl

end Sys2Proof.Machine
end

section
open Sys2Proof Sys2Proof.Machine

/-- Settles O2: an idle step takes one of the expiries that are due, each of which stands once among them. -/
theorem emptyQueueLetsTimePass : Obligations.EmptyQueueLetsTimePass := by
  intro s empty
  refine ⟨fun none => ⟨s.tick, ?_, rfl, fun i => s.tick_row i⟩, fun c h only => ?_, fun c other h ho ne => ?_⟩
  · rw [step_of_empty empty]
    exact idleStep_of_none_due none
  · rw [step_of_empty empty]
    exact idleStep_of_one_due h only
  · rw [step_of_empty empty]
    exact idleStep_of_several_due h ho ne

/-- Settles O5: the slots after the verification are those that the statement asks for. -/
theorem resetRestoresTheResetValues : Obligations.ResetRestoresTheResetValues := by
  intro strap s
  refine ⟨s.store.verified, fun k => ?_, fun k hk => ?_, fun k hk => ?_, fun k r check hk => ?_, exec_reset strap s⟩
  · rw [Store.verified_image, Store.cut_eq]
  · rw [Store.verified_validity, hk]
    rfl
  · rw [Store.verified_validity, hk]
    rfl
  · rw [Store.verified_validity, hk]
    rfl

end

section
/-! The supply arbiter, slot by slot, and the parts of a frame start as equations of states. -/

namespace Sys2Proof.Machine

/-! ### The arbitration of a slot (R55, R56) -/

theorem FiringZone.candidate_iff (slot : Nat) (z : FiringZone) : z.candidate slot = true ↔
    0 < z.owed ∧ (((slot : Int) - z.windowStart) % 100 < z.frameDuty ∨ z.deferred = true) := by
  simp [FiringZone.candidate, FiringZone.inWindow]

theorem candidatesBefore_eq (rank : Vec Nat 12) (zones : Vec FiringZone 12) (slot : Nat) (i : Fin 12)
    (candidate : Fin 12 → Prop) [DecidablePred candidate]
    (h : ∀ z, (zones.get z).candidate slot = true ↔ candidate z) :
    candidatesBefore rank zones slot i =
      (List.finRange 12).countP fun w => decide (candidate w ∧ rank.get w < rank.get i) := by
  refine List.countP_congr fun w _ => ?_
  simp [h]

section
variable (s : State) {k : Nat} {z : Fin 12}

theorem State.startSlot_zone_granted (h : (s.firing.zones.get z).candidate k = true)
    (hb : candidatesBefore s.settings.firingRank s.firing.zones k z < s.supplyLimitNow) :
    (s.startSlot k).firing.zones.get z =
      { s.firing.zones.get z with owed := (s.firing.zones.get z).owed - 1, output := true } := by
  simp [State.startSlot, FiringZone.arbitrated, granted, h, hb]

theorem State.startSlot_zone_deferred (h : (s.firing.zones.get z).candidate k = true)
    (hb : s.supplyLimitNow ≤ candidatesBefore s.settings.firingRank s.firing.zones k z) :
    (s.startSlot k).firing.zones.get z = { s.firing.zones.get z with deferred := true, output := false } := by
  simp [State.startSlot, FiringZone.arbitrated, granted, h, not_lt.2 hb]

theorem State.startSlot_zone_idle (h : ¬(s.firing.zones.get z).candidate k = true) :
    (s.startSlot k).firing.zones.get z = { s.firing.zones.get z with output := false } := by
  simp [State.startSlot, FiringZone.arbitrated, granted, h]

end

theorem exec_slotStart_of_slot {s : State} {k : Nat} (h : s.firing.slot = some k) (lt : k < 99) :
    exec .slotStart s = .next (s.startSlot (k + 1)) := by
  change execSlotStart s = _
  simp only [execSlotStart, h, if_pos lt]

/-! ### The close of a frame (R60, R61) -/

/-- The rows after the close of a frame: where a zone fell short, the CURING cavities over it have their note. -/
def State.shortRows (s : State) : Vec Row 8 :=
  if s.firing.slot.isSome = true ∧ 0 < s.firing.owedTotal then
    s.rows.mapIdx fun i (row : Row) =>
      row.noteShortfall s.clock (s.rowRecipe i) fun z => at12 (s.firing.zones.map FiringZone.owed) z 0
  else s.rows

theorem State.closeFrame_eq (s : State) : s.closeFrame = { s with
    rows := s.shortRows
    regulator := { s.regulator with zones := s.closeFrame.regulator.zones }
    firing := { s.firing with
      cellShortfall :=
        if s.firing.slot.isSome then min (s.firing.cellShortfall + s.firing.owedTotal) 65535
        else s.firing.cellShortfall }
    streamer := { s.streamer with
      warning := s.streamer.warning || decide (s.firing.slot.isSome = true ∧ 0 < s.firing.owedTotal) } } := by
  unfold State.closeFrame State.shortRows
  by_cases running : s.firing.slot.isSome = true
  · by_cases short : 0 < s.firing.owedTotal
    · simp only [running, short, if_true, and_self, decide_true, Bool.or_true]
      rfl
    · simp only [running, short, if_true, if_false, and_false, decide_false, Bool.or_false]
      rfl
  · simp only [running, Bool.false_eq_true, if_false, false_and, decide_false, Bool.or_false]

theorem Firing.owedTotal_eq (f : Firing) :
    f.owedTotal = ((List.finRange 12).map fun z => (f.zones.get z).owed).sum := by
  rw [Firing.owedTotal, Vec.toList_eq, List.map_map]
  rfl

theorem Firing.owedTotal_pos_iff (f : Firing) : 0 < f.owedTotal ↔ ∃ z, 0 < (f.zones.get z).owed := by
  rw [f.owedTotal_eq, Nat.pos_iff_ne_zero, Ne, List.sum_eq_zero_iff]
  simp [Nat.pos_iff_ne_zero]

theorem pos_at12_owed_iff (zones : Vec FiringZone 12) (n : Nat) :
    0 < at12 (zones.map FiringZone.owed) n 0 ↔ ∃ z : Fin 12, z.val = n ∧ 0 < (zones.get z).owed := by
  unfold at12
  split
  · next h =>
    rw [Vec.get_map]
    refine ⟨fun hp => ⟨⟨n, h⟩, rfl, hp⟩, ?_⟩
    rintro ⟨z, rfl, hp⟩
    exact hp
  · next h =>
    refine ⟨fun hp => absurd hp (lt_irrefl 0), ?_⟩
    rintro ⟨z, rfl, -⟩
    exact absurd z.isLt h

theorem State.shortRows_row (s : State) (i : Fin 8) :
    s.shortRows.get i = { s.row i with cavities := (s.shortRows.get i).cavities } := by
  unfold State.shortRows
  split
  · rw [Vec.get_mapIdx]
    rfl
  · rfl

/-- A cavity after the close of a frame: it has its note where it is CURING over a zone that fell short. -/
theorem State.shortRows_cavity (s : State) (i j : Fin 8) [Decidable (s.firing.slot.isSome = true ∧
      (s.cavity i j).cure = .curing ∧
      ((∃ z : Fin 12, z.val = (s.rowRecipe i).topZone.get j ∧ 0 < (s.firing.zones.get z).owed) ∨
        ∃ z : Fin 12, z.val = (s.rowRecipe i).bottomZone.get j ∧ 0 < (s.firing.zones.get z).owed))] :
    (s.shortRows.get i).cavities.get j =
      if s.firing.slot.isSome = true ∧ (s.cavity i j).cure = .curing ∧
        ((∃ z : Fin 12, z.val = (s.rowRecipe i).topZone.get j ∧ 0 < (s.firing.zones.get z).owed) ∨
          ∃ z : Fin 12, z.val = (s.rowRecipe i).bottomZone.get j ∧ 0 < (s.firing.zones.get z).owed)
      then (s.cavity i j).giveNote .supplyShortfall (noteOffset s.clock (s.row i))
      else s.cavity i j := by
  unfold State.shortRows
  by_cases short : s.firing.slot.isSome = true ∧ 0 < s.firing.owedTotal
  · rw [if_pos short, Vec.get_mapIdx, Row.noteShortfall, Vec.get_mapIdx]
    refine if_congr ?_ rfl rfl
    rw [pos_at12_owed_iff, pos_at12_owed_iff]
    exact (and_iff_right short.1).symm
  · rw [if_neg short, if_neg]
    · rfl
    · rintro ⟨running, -, ⟨z, -, hz⟩ | ⟨z, -, hz⟩⟩ <;>
        exact short ⟨running, s.firing.owedTotal_pos_iff.2 ⟨z, hz⟩⟩

/-! ### The ready test (R35 to R37) -/

theorem Zone.readyOk_iff (working band : Nat) (z : Zone) : z.readyOk working band = true ↔ (working ≠ 0 →
    z.sensor = .ok ∧ ∃ reading, z.reading = some reading ∧ (z.setpoint : Int) - band ≤ reading ∧
      reading ≤ z.setpoint + band) := by
  rw [Zone.readyOk]
  by_cases h : working = 0
  · simp [h]
  · cases z.reading <;> simp [h]

theorem State.readyPasses_iff (s : State) : s.readyPasses = true ↔ ∀ z, s.platenRecipeFields.setpoint.get z ≠ 0 →
    (s.regulator.zones.get z).sensor = .ok ∧ ∃ reading, (s.regulator.zones.get z).reading = some reading ∧
      ((s.regulator.zones.get z).setpoint : Int) - s.settings.readyBand ≤ reading ∧
      reading ≤ (s.regulator.zones.get z).setpoint + s.settings.readyBand := by
  simp [State.readyPasses, Zone.readyOk_iff]

/-- The platen state and the dwell count that a ready test leaves, by those before it and whether it passes. -/
def readyOutcomeOf (platen : PlatenState) (dwell readyDwell : Nat) (passes : Bool) : PlatenState × Nat :=
  match platen with
  | .warming => if passes then (if readyDwell ≤ dwell + 1 then .ready else .warming, dwell + 1) else (.warming, 0)
  | .ready => if passes then (.ready, dwell) else (.warming, 0)
  | .off => (.off, dwell)
  | .standby => (.standby, dwell)

/-- The platen state and the dwell count that the ready test leaves. -/
def State.readyOutcome (s : State) : PlatenState × Nat :=
  readyOutcomeOf s.regulator.platen s.regulator.dwell s.settings.readyDwell s.readyPasses

/-- The ready test makes the platen leave READY. -/
abbrev State.ReadyLost (s : State) : Prop := s.regulator.platen = .ready ∧ s.readyOutcome.1 ≠ .ready

theorem PlatenState.eq_or (p : PlatenState) : p = .off ∨ p = .standby ∨ p = .warming ∨ p = .ready := by
  cases p <;> decide

theorem State.eq_of_platen (s : State) {p : PlatenState} (h : s.regulator.platen = p) :
    s = { s with regulator := { s.regulator with platen := p } } := by
  subst h
  rfl

/-- The ready test writes the platen state, the dwell count and what READY gained or lost brings with it. -/
theorem State.readyTest_eq (s : State) : s.readyTest = { s with
    rows := if s.ReadyLost then s.rows.map Row.clearPermit else s.rows
    regulator := { s.regulator with platen := s.readyOutcome.1, dwell := s.readyOutcome.2 }
    ports := { s.ports with
      press :=
        if s.ReadyLost then s.ports.press.raise .platenNotReady
        else if s.regulator.platen ≠ .ready ∧ s.readyOutcome.1 = .ready then s.ports.press.raise .platenReady
        else s.ports.press }
    streamer := { s.streamer with warning := s.streamer.warning || decide s.ReadyLost } } := by
  rcases PlatenState.eq_or s.regulator.platen with hp | hp | hp | hp
  · simp only [State.readyTest, State.ReadyLost, State.readyOutcome, readyOutcomeOf, hp]
    simpa using s.eq_of_platen hp
  · simp only [State.readyTest, State.ReadyLost, State.readyOutcome, readyOutcomeOf, hp]
    simpa using s.eq_of_platen hp
  · by_cases passes : s.readyPasses = true
    · by_cases dwell : s.settings.readyDwell ≤ s.regulator.dwell + 1
      · simp only [State.readyTest, State.ReadyLost, State.readyOutcome, readyOutcomeOf, hp, passes, dwell]
        simp [State.raise, State.setPort, Ports.set, State.port, Ports.get]
      · simp [State.readyTest, State.ReadyLost, State.readyOutcome, readyOutcomeOf, hp, passes, dwell]
    · simp [State.readyTest, State.ReadyLost, State.readyOutcome, readyOutcomeOf, hp, passes]
  · by_cases passes : s.readyPasses = true
    · simp only [State.readyTest, State.ReadyLost, State.readyOutcome, readyOutcomeOf, hp, passes]
      simpa using s.eq_of_platen hp
    · simp [State.readyTest, State.ReadyLost, State.readyOutcome, readyOutcomeOf, hp, passes,
        State.enterPlaten_eq, State.setWarning]

end Sys2Proof.Machine
end

section
open Sys2Proof Sys2Proof.Machine

/-- Settles O43: the three fates of a zone in the arbitration of a slot. -/
theorem slotStartGrantsByRank : Obligations.SlotStartGrantsByRank := by
  intro s k hk lt
  have candidate := fun z => FiringZone.candidate_iff (k + 1) (s.firing.zones.get z)
  have before := fun z => candidatesBefore_eq s.settings.firingRank s.firing.zones (k + 1) z _ candidate
  refine ⟨_, exec_slotStart_of_slot hk lt, fun z hc hb => ?_, fun z hc hb => ?_, fun z hc => ?_, rfl⟩
  · exact s.startSlot_zone_granted ((candidate z).2 hc) ((before z).symm ▸ hb)
  · exact s.startSlot_zone_deferred ((candidate z).2 hc) ((before z).symm ▸ hb)
  · exact s.startSlot_zone_idle fun h => hc ((candidate z).1 h)

end

section
/-! The frame start as one equation of states, and the statements about it (R29 to R37, R42 to R61, R119). -/

namespace Sys2Proof.Machine

/-! ### Up to the close of the frame in progress -/

/-- The state of a frame start once the duties are computed and the frame in progress is closed. -/
def State.frameClosed (s : State) : State :=
  ({ s with firing := { s.firing with frameTimer := Config.framePeriod } } :
    State).ageTest.setSetpoints.computeDuties.closeFrame

/-- The state of a frame start before its ready test. -/
def State.frameOpened (s : State) : State := s.frameClosed.openFrame

theorem exec_frameStart_eq (s : State) : exec .frameStart s = .next s.frameOpened.readyTest := rfl

theorem State.frameClosed_eq (s : State) : s.frameClosed = { s with
    rows := s.shortRows
    regulator := { s.regulator with zones := s.frameClosed.regulator.zones }
    firing := { s.firing with
      cellShortfall :=
        if s.firing.slot.isSome then min (s.firing.cellShortfall + s.firing.owedTotal) 65535
        else s.firing.cellShortfall
      frameTimer := 2000 }
    streamer := { s.streamer with
      fault := s.streamer.fault || s.regulator.zones.any (Zone.goesStale s.clock s.settings.sampleStaleMs)
      warning := s.streamer.warning || decide (s.firing.slot.isSome = true ∧ 0 < s.firing.owedTotal) } } := by
  have closed := State.closeFrame_eq
    ({ s with firing := { s.firing with frameTimer := Config.framePeriod } } :
      State).ageTest.setSetpoints.computeDuties
  rw [State.ageTest_eq] at closed
  conv_lhs => rw [State.frameClosed, State.ageTest_eq, closed]
  conv_rhs => rw [State.frameClosed, State.ageTest_eq]
  rfl

/-! ### The duties that the new frame takes over -/

/-- A zone record as a frame start makes it ready for the duty computation, for the platen recipe in slot `k`. -/
def State.agedZone (s : State) (k : Fin 8) (z : Fin 12) : Zone :=
  { s.regulator.zones.get z with
    sensor := if (s.regulator.zones.get z).sensor = .ok ∧ (s.regulator.zones.get z).arrival.any
        (fun at_ => s.settings.sampleStaleMs < elapsed s.clock at_) = true
      then .stale else (s.regulator.zones.get z).sensor
    setpoint := setpointFor s.regulator.platen ((s.recipeAt k).setpoint.get z) s.settings.setback }

/-- A zone record of a frame start with its new duty and integral. -/
abbrev State.dutyZone (s : State) (k : Fin 8) (z : Fin 12) : Zone := (s.agedZone k z).computeDuty (s.recipeAt k) z

theorem Zone.goesStale_iff_any (now : Clock) (staleMs : Nat) (z : Zone) : z.goesStale now staleMs = true ↔
    z.sensor = .ok ∧ z.arrival.any (fun at_ => staleMs < elapsed now at_) = true := by
  rw [Zone.goesStale_iff]
  cases z.arrival <;> simp

section
variable {s : State} {k : Fin 8} (hk : s.regulator.platen ≠ .off → s.regulator.platenRecipe = some k)
include hk

theorem State.zoneForDuty_eq (z : Fin 12) : s.zoneForDuty z = s.agedZone k z := by
  simp only [State.zoneForDuty, State.agedZone, State.setpointFor_eq hk, Zone.goesStale_iff_any]

theorem State.computeDuty_zoneForDuty (z : Fin 12) :
    (s.zoneForDuty z).computeDuty s.platenRecipeFields z = s.dutyZone k z := by
  rw [State.zoneForDuty_eq hk]
  by_cases off : s.regulator.platen = .off
  · have unheated : (s.agedZone k z).setpoint = 0 := by simp only [State.agedZone, off, setpointFor]
    rw [State.dutyZone, Zone.computeDuty_of_setpoint_zero unheated, Zone.computeDuty_of_setpoint_zero unheated]
  · rw [State.platenRecipeFields, hk off]

theorem State.frameOpened_zone (z : Fin 12) : s.frameOpened.regulator.zones.get z =
    { s.dutyZone k z with
      shortfall := if s.firing.slot ≠ none then (s.firing.zones.get z).owed else (s.regulator.zones.get z).shortfall
      totalShortfall :=
        if s.firing.slot ≠ none then min ((s.regulator.zones.get z).totalShortfall + (s.firing.zones.get z).owed) 65535
        else (s.regulator.zones.get z).totalShortfall } := by
  have zone : s.frameOpened.readyTest.regulator.zones.get z =
      if s.firing.slot.isSome = true then
        ((s.zoneForDuty z).computeDuty s.platenRecipeFields z).addShortfall (s.firing.zones.get z).owed
      else (s.zoneForDuty z).computeDuty s.platenRecipeFields z :=
    State.frameStart_zone { s with firing := { s.firing with frameTimer := Config.framePeriod } } z
  rw [State.readyTest_zones, State.computeDuty_zoneForDuty hk] at zone
  rw [zone, State.dutyZone, Zone.computeDuty_frame]
  cases s.firing.slot <;> rfl

theorem State.frameClosed_duty (z : Fin 12) : (s.frameClosed.regulator.zones.get z).duty = (s.dutyZone k z).duty :=
  (congrArg Zone.duty (State.frameOpened_zone hk z) :)

end

/-! ### Slot 0 of the new frame (R49, R52) -/

/-- A zone of the frame that opens, before its slot 0: it owes its duty in its window, and is not deferred. -/
def FiringZone.opened (duty windowStart : Nat) (output : Bool) : FiringZone where
  frameDuty := duty
  windowStart := windowStart
  owed := duty
  deferred := false
  output := output

/-- The state in which slot 0 of the new frame is arbitrated. -/
def State.owing (s : State) : State :=
  { s with
    firing := { s.firing with
      zones := s.firing.zones.mapIdx fun z (old : FiringZone) =>
        .opened (s.regulator.zones.get z).duty (s.settings.stagger.get z) old.output } }

theorem State.openFrame_eq_startSlot (s : State) : s.openFrame = s.owing.startSlot 0 := rfl

theorem State.owing_zone (s : State) (z : Fin 12) : s.owing.firing.zones.get z =
    .opened (s.regulator.zones.get z).duty (s.settings.stagger.get z) (s.firing.zones.get z).output :=
  Vec.get_mapIdx _ _ _

section
variable {s : State} {duty : Fin 12 → Nat} (hd : ∀ z, (s.regulator.zones.get z).duty = duty z)
include hd

theorem State.owing_candidate_iff (z : Fin 12) : (s.owing.firing.zones.get z).candidate 0 = true ↔
    0 < duty z ∧ (0 - (s.settings.stagger.get z : Int)) % 100 < duty z := by
  rw [FiringZone.candidate_iff, s.owing_zone, FiringZone.opened, hd]
  simp

theorem State.owing_candidatesBefore (z : Fin 12) :
    candidatesBefore s.settings.firingRank s.owing.firing.zones 0 z = (List.finRange 12).countP fun w =>
      decide ((0 < duty w ∧ (0 - (s.settings.stagger.get w : Int)) % 100 < duty w) ∧
        s.settings.firingRank.get w < s.settings.firingRank.get z) :=
  candidatesBefore_eq _ _ _ _ _ (State.owing_candidate_iff hd)

/-- The three fates of a zone in slot 0: granted, deferred, or no candidate. -/
theorem State.openFrame_zone (z : Fin 12) :
    let candidate := fun z : Fin 12 => 0 < duty z ∧ (0 - (s.settings.stagger.get z : Int)) % 100 < duty z
    let before := (List.finRange 12).countP fun w =>
      decide (candidate w ∧ s.settings.firingRank.get w < s.settings.firingRank.get z)
    let owes := fun (owed : Nat) (deferred output : Bool) =>
      ({ frameDuty := duty z, windowStart := s.settings.stagger.get z, owed := owed, deferred := deferred,
         output := output } : FiringZone)
    (candidate z → before < s.supplyLimitNow → s.openFrame.firing.zones.get z = owes (duty z - 1) false true) ∧
    (candidate z → s.supplyLimitNow ≤ before → s.openFrame.firing.zones.get z = owes (duty z) true false) ∧
    (¬candidate z → s.openFrame.firing.zones.get z = owes (duty z) false false) := by
  intro candidate before owes
  have zone := s.owing_zone z
  have count := State.owing_candidatesBefore hd z
  rw [hd] at zone
  rw [s.openFrame_eq_startSlot]
  refine ⟨fun hc hb => ?_, fun hc hb => ?_, fun hc => ?_⟩
  · rw [s.owing.startSlot_zone_granted ((State.owing_candidate_iff hd z).2 hc) (count.trans_lt hb), zone]
    rfl
  · rw [s.owing.startSlot_zone_deferred ((State.owing_candidate_iff hd z).2 hc) (hb.trans_eq count.symm), zone]
    rfl
  · rw [s.owing.startSlot_zone_idle fun h => hc ((State.owing_candidate_iff hd z).1 h), zone]
    rfl

end

/-! ### The whole frame start -/

theorem State.frameOpened_eq (s : State) : s.frameOpened = { s with
    rows := s.shortRows
    regulator := { s.regulator with zones := s.frameOpened.regulator.zones }
    firing :=
      { zones := s.frameOpened.firing.zones
        slot := some 0
        limit := s.supplyLimitNow
        cellShortfall :=
          if s.firing.slot.isSome then min (s.firing.cellShortfall + s.firing.owedTotal) 65535
          else s.firing.cellShortfall
        frameTimer := 2000
        slotTimer := 20 }
    streamer := { s.streamer with
      fault := s.streamer.fault || s.regulator.zones.any (Zone.goesStale s.clock s.settings.sampleStaleMs)
      warning := s.streamer.warning || decide (s.firing.slot.isSome = true ∧ 0 < s.firing.owedTotal) } } := by
  rw [State.frameOpened, s.frameClosed_eq]
  rfl

theorem State.frameOpened_readyTest_eq (s : State) : s.frameOpened.readyTest = { s with
    rows := s.frameOpened.readyTest.rows
    regulator := { s.regulator with
      zones := s.frameOpened.regulator.zones
      platen := s.frameOpened.readyOutcome.1
      dwell := s.frameOpened.readyOutcome.2 }
    firing := s.frameOpened.firing
    ports := { s.ports with
      press :=
        if s.frameOpened.ReadyLost then s.ports.press.raise .platenNotReady
        else if s.regulator.platen ≠ .ready ∧ s.frameOpened.readyOutcome.1 = .ready then
          s.ports.press.raise .platenReady
        else s.ports.press }
    streamer := { s.frameOpened.streamer with
      warning := s.frameOpened.streamer.warning || decide s.frameOpened.ReadyLost } } := by
  rw [s.frameOpened.readyTest_eq, s.frameOpened_eq]

end Sys2Proof.Machine
end

section
/-! The statements about the frame start. -/

namespace Sys2Proof.Machine

/-! ### A note given to a cavity (R119) -/

section
variable {c : Cavity} {kind : NoteKind} (notDue : c.record = .notDue) (offset : Nat)
include notDue

theorem Cavity.giveNote_known (known : ∃ note ∈ c.notes, note.kind = kind) :
    c.giveNote kind offset = { c with
      notes := c.notes.map fun note =>
        { note with count := if note.kind = kind then min (note.count + 1) 255 else note.count } } := by
  have : (c.notes.any fun n => n.kind == kind) = true := by simpa using known
  simp only [Cavity.giveNote, notDue, this, bne_self_eq_false, Bool.false_eq_true, if_false, if_true]
  congr 2
  funext note
  split <;> rfl

variable (fresh : ∀ note ∈ c.notes, note.kind ≠ kind)
include fresh

theorem Cavity.giveNote_fresh (room : c.notes.length < 8) :
    c.giveNote kind offset = { c with notes := c.notes ++ [{ kind := kind, count := 1, offset := offset }] } := by
  have : (c.notes.any fun n => n.kind == kind) = false := by simpa using fresh
  simp only [Cavity.giveNote, notDue, this, bne_self_eq_false, Bool.false_eq_true, if_false]
  exact if_pos room

theorem Cavity.giveNote_full (full : 8 ≤ c.notes.length) :
    c.giveNote kind offset = { c with notesDropped := min (c.notesDropped + 1) 255 } := by
  have : (c.notes.any fun n => n.kind == kind) = false := by simpa using fresh
  simp only [Cavity.giveNote, notDue, this, bne_self_eq_false, Bool.false_eq_true, if_false]
  exact if_neg (not_lt.2 full)

end

/-! ### The frame start -/

section
variable (s : State)

theorem State.frameOpened_platen : s.frameOpened.regulator.platen = s.regulator.platen := by
  rw [s.frameOpened_eq]

theorem State.frameStart_platen : s.frameOpened.readyTest.regulator.platen = s.frameOpened.readyOutcome.1 := by
  rw [s.frameOpened.readyTest_eq]

theorem State.frameStart_firing : s.frameOpened.readyTest.firing = s.frameOpened.firing := by
  rw [s.frameOpened.readyTest_eq]

/-- A frame start makes the platen leave READY. -/
abbrev State.FrameLeavesReady : Prop :=
  s.regulator.platen = .ready ∧ s.frameOpened.readyTest.regulator.platen ≠ .ready

theorem State.readyLost_iff : s.frameOpened.ReadyLost ↔ s.FrameLeavesReady := by
  rw [State.FrameLeavesReady, s.frameStart_platen, State.ReadyLost, s.frameOpened_platen]

/-- Of a row, a frame start writes the close-permit flag and the notes of its cavities. -/
theorem State.frameStart_row (i : Fin 8) : s.frameOpened.readyTest.row i = { s.row i with
    permit := (s.row i).permit && !decide (s.FrameLeavesReady ∧ (s.row i).state = .charged)
    cavities := (s.shortRows.get i).cavities } := by
  have rows : s.frameOpened.readyTest.rows =
      if s.FrameLeavesReady then s.shortRows.map Row.clearPermit else s.shortRows := by
    have opened : s.frameOpened.rows = s.shortRows := by rw [s.frameOpened_eq]
    rw [← opened]
    exact (congrArg State.rows s.frameOpened.readyTest_eq).trans (if_congr s.readyLost_iff rfl rfl)
  rw [State.row, rows]
  by_cases h : s.FrameLeavesReady
  · rw [if_pos h, Vec.get_map, Row.clearPermit_eq, s.shortRows_row, decide_eq_decide.2 (and_iff_right h)]
  · rw [if_neg h, s.shortRows_row]
    rw [decide_eq_false fun hl => h hl.1, Bool.not_false, Bool.and_true]

theorem State.frameStart_cavity (i j : Fin 8) :
    s.frameOpened.readyTest.cavity i j = (s.shortRows.get i).cavities.get j := by
  rw [State.cavity, s.frameStart_row]

/-- The new frame, and what the frame in progress adds to the cell's shortfall. -/
theorem State.frameOpened_firing : s.frameOpened.firing =
    { zones := s.frameOpened.firing.zones
      slot := some 0
      limit := s.supplyLimitNow
      cellShortfall :=
        if s.firing.slot ≠ none then
          min (s.firing.cellShortfall + ((List.finRange 12).map fun z => (s.firing.zones.get z).owed).sum) 65535
        else s.firing.cellShortfall
      frameTimer := 2000
      slotTimer := 20 } := by
  have firing := congrArg State.firing s.frameOpened_eq
  dsimp only at firing
  refine firing.trans ?_
  rw [Firing.owedTotal_eq]
  congr 1
  exact if_congr Option.isSome_iff_ne_none rfl rfl

/-- The flags that the age test and the close of a frame set. -/
theorem State.frameOpened_streamer : s.frameOpened.streamer = { s.streamer with
    fault := s.streamer.fault || decide (∃ z, (s.regulator.zones.get z).sensor = .ok ∧
      (s.regulator.zones.get z).arrival.any (fun at_ => s.settings.sampleStaleMs < elapsed s.clock at_) = true)
    warning := s.streamer.warning ||
      decide (s.firing.slot ≠ none ∧ ∃ z, 0 < (s.firing.zones.get z).owed) } := by
  have fault : s.regulator.zones.any (Zone.goesStale s.clock s.settings.sampleStaleMs) =
      decide (∃ z, (s.regulator.zones.get z).sensor = .ok ∧
        (s.regulator.zones.get z).arrival.any (fun at_ => s.settings.sampleStaleMs < elapsed s.clock at_) = true) := by
    rw [Bool.eq_iff_iff, Vec.any_iff, decide_eq_true_iff]
    simp only [Zone.goesStale_iff_any]
  have streamer := congrArg State.streamer s.frameOpened_eq
  dsimp only at streamer
  rw [streamer, fault]
  congr 1
  exact congrArg _ (decide_eq_decide.2 (and_congr Option.isSome_iff_ne_none s.firing.owedTotal_pos_iff))

/-- What a frame start leaves of the state, its zones and the ready test apart. -/
theorem State.frameStart_eq : s.frameOpened.readyTest = { s with
    rows := s.frameOpened.readyTest.rows
    regulator := { s.regulator with
      zones := s.frameOpened.readyTest.regulator.zones
      platen := s.frameOpened.readyTest.regulator.platen
      dwell := s.frameOpened.readyTest.regulator.dwell }
    firing :=
      { zones := s.frameOpened.readyTest.firing.zones
        slot := some 0
        limit := s.supplyLimitNow
        cellShortfall :=
          if s.firing.slot ≠ none then
            min (s.firing.cellShortfall + ((List.finRange 12).map fun z => (s.firing.zones.get z).owed).sum) 65535
          else s.firing.cellShortfall
        frameTimer := 2000
        slotTimer := 20 }
    ports := { s.ports with
      press :=
        if s.FrameLeavesReady then s.ports.press.raise .platenNotReady
        else if s.regulator.platen ≠ .ready ∧ s.frameOpened.readyTest.regulator.platen = .ready then
          s.ports.press.raise .platenReady
        else s.ports.press }
    streamer := { s.streamer with
      fault := s.streamer.fault || decide (∃ z, (s.regulator.zones.get z).sensor = .ok ∧
        (s.regulator.zones.get z).arrival.any (fun at_ => s.settings.sampleStaleMs < elapsed s.clock at_) = true)
      warning := s.streamer.warning ||
        decide ((s.firing.slot ≠ none ∧ ∃ z, 0 < (s.firing.zones.get z).owed) ∨ s.FrameLeavesReady) } } := by
  refine s.frameOpened_readyTest_eq.trans ?_
  congr 1
  · rw [s.frameStart_platen, State.readyTest_zones, s.frameOpened.readyTest_eq]
  · rw [s.frameStart_firing]
    exact s.frameOpened_firing
  · rw [s.frameOpened_streamer]
    dsimp only
    congr 1
    rw [Bool.or_assoc, ← Bool.decide_or]
    exact congrArg _ (decide_eq_decide.2 (or_congr_right s.readyLost_iff))
  · dsimp only
    congr 1
    refine if_congr s.readyLost_iff rfl (if_congr (and_congr_right fun _ => ?_) rfl rfl)
    rw [s.frameStart_platen]

theorem State.frameStart_dwell : s.frameOpened.readyTest.regulator.dwell = s.frameOpened.readyOutcome.2 := by
  rw [s.frameOpened.readyTest_eq]

theorem State.frameStart_ports : s.frameOpened.readyTest.ports = { s.ports with
    press :=
      if s.FrameLeavesReady then s.ports.press.raise .platenNotReady
      else if s.regulator.platen ≠ .ready ∧ s.frameOpened.readyTest.regulator.platen = .ready then
        s.ports.press.raise .platenReady
      else s.ports.press } :=
  (congrArg State.ports s.frameStart_eq :)

/-- The ready test of a frame start, on the zones as the frame start leaves them. -/
theorem State.frameOpened_readyPasses_iff {k : Fin 8} (hk : s.regulator.platenRecipe = some k) :
    s.frameOpened.readyPasses = true ↔ ∀ z, (s.recipeAt k).setpoint.get z ≠ 0 →
      let w := s.frameOpened.readyTest.regulator.zones.get z
      w.sensor = .ok ∧ ∃ reading, w.reading = some reading ∧
        (w.setpoint : Int) - s.settings.readyBand ≤ reading ∧ reading ≤ w.setpoint + s.settings.readyBand := by
  have recipe : s.frameOpened.platenRecipeFields = s.recipeAt k := by
    rw [s.frameOpened_eq, State.platenRecipeFields]
    dsimp only
    rw [hk]
    rfl
  have settings : s.frameOpened.settings = s.settings := by rw [s.frameOpened_eq]
  rw [State.readyPasses_iff, recipe, settings, State.readyTest_zones]

/-- The platen state and the dwell count after a frame start, by the state before it. -/
theorem State.frameOpened_readyOutcome : s.frameOpened.readyOutcome =
    readyOutcomeOf s.regulator.platen s.regulator.dwell s.settings.readyDwell s.frameOpened.readyPasses := by
  have settings : s.frameOpened.settings = s.settings := by rw [s.frameOpened_eq]
  have dwell : s.frameOpened.regulator.dwell = s.regulator.dwell := by rw [s.frameOpened_eq]
  rw [State.readyOutcome, s.frameOpened_platen, settings, dwell]

end

end Sys2Proof.Machine
end

section
open Sys2Proof Sys2Proof.Machine

open Classical in
/-- Settles O42: the branches of a note given, and the cavities over a zone that fell short. -/
theorem shortfallReachesTheCuringCavities : Obligations.ShortfallReachesTheCuringCavities := by
  refine ⟨fun c kind offset => ⟨Cavity.giveNote_due kind offset, fun notDue => ⟨Cavity.giveNote_known notDue offset,
    fun fresh => ⟨Cavity.giveNote_fresh notDue offset fresh, Cavity.giveNote_full notDue offset fresh⟩⟩⟩,
    fun s running => ⟨_, exec_frameStart_eq s, fun short => ?_, ?_, fun young => ?_, fun i j notCuring => ?_,
    fun i k hk => ⟨fun j top bottom => ?_, fun closedAt closed j curing short => ?_⟩⟩⟩
  · rw [s.frameStart_eq]
    simp [running, short]
  · rintro ⟨z, at_, ok, arrival, old⟩
    have stale : ∃ z, (s.regulator.zones.get z).sensor = .ok ∧
        (s.regulator.zones.get z).arrival.any (fun at_ => s.settings.sampleStaleMs < elapsed s.clock at_) = true :=
      ⟨z, ok, by simpa [arrival] using old⟩
    rw [s.frameStart_eq]
    dsimp only
    rw [decide_eq_true stale, Bool.or_true]
  · have fresh : ¬∃ z, (s.regulator.zones.get z).sensor = .ok ∧
        (s.regulator.zones.get z).arrival.any (fun at_ => s.settings.sampleStaleMs < elapsed s.clock at_) = true := by
      rintro ⟨z, ok, old⟩
      obtain ⟨at_, arrival, old⟩ := (Option.any_eq_true _ _).1 old
      exact absurd (of_decide_eq_true old) (not_lt.2 (young z at_ ok arrival))
    rw [s.frameStart_eq]
    dsimp only
    rw [decide_eq_false fresh, Bool.or_false]
  · rw [s.frameStart_cavity, s.shortRows_cavity, if_neg fun h => notCuring h.2.1]
  · rw [s.frameStart_cavity, s.shortRows_cavity, State.rowRecipe_of_some hk, if_neg fun h => h.2.2.elim top bottom]
  · rw [s.frameStart_cavity, s.shortRows_cavity, State.rowRecipe_of_some hk,
      if_pos ⟨Option.isSome_iff_ne_none.2 running, curing, short⟩, noteOffset_of_closed closed]

/-- Settles O41: the ready test, by the platen state before it and its outcome. -/
theorem readyTestMovesThePlaten : Obligations.ReadyTestMovesThePlaten := by
  intro s k hk
  refine ⟨_, exec_frameStart_eq s, fun m => ?_, ?_⟩
  · rw [s.frameStart_row]
    exact congrArg (fun b => (s.row m).permit && !b) (decide_eq_decide.2 and_assoc)
  have passes := s.frameOpened_readyPasses_iff hk
  have outcome := s.frameOpened_readyOutcome
  have platen := s.frameStart_platen.trans (congrArg Prod.fst outcome)
  have dwell := s.frameStart_dwell.trans (congrArg Prod.snd outcome)
  have ports := s.frameStart_ports
  simp only [← passes]
  rcases PlatenState.eq_or s.regulator.platen with hp | hp | hp | hp <;>
    simp only [hp, readyOutcomeOf] at platen dwell ⊢
  · exact ⟨platen, dwell, by simpa [State.FrameLeavesReady, hp, platen] using ports⟩
  · exact ⟨platen, dwell, by simpa [State.FrameLeavesReady, hp, platen] using ports⟩
  · refine ⟨fun fails => ?_, fun passes => ?_⟩
    · rw [if_neg fails] at platen dwell
      exact ⟨platen, dwell, by simpa [State.FrameLeavesReady, hp, platen] using ports⟩
    · rw [if_pos passes] at platen dwell
      refine ⟨dwell, fun short => ?_, fun long => ?_⟩
      · replace platen := platen.trans (if_neg (not_le.2 short))
        exact ⟨platen, by simpa [State.FrameLeavesReady, hp, platen] using ports⟩
      · replace platen := platen.trans (if_pos long)
        exact ⟨platen, by simpa [State.FrameLeavesReady, hp, platen] using ports⟩
  · refine ⟨fun passes => ?_, fun fails => ?_⟩
    · rw [if_pos passes] at platen dwell
      exact ⟨platen, dwell, by simpa [State.FrameLeavesReady, hp, platen] using ports⟩
    · rw [if_neg fails] at platen dwell
      have lost : s.FrameLeavesReady := ⟨hp, by rw [platen]; decide⟩
      refine ⟨platen, dwell, ?_, by simpa [State.FrameLeavesReady, hp, platen] using ports⟩
      rw [s.frameStart_eq]
      simp [lost]

open Classical in
/-- Settles O40: the frame start as an equation of states, its zones apart. -/
theorem frameStartClosesAndOpensTheFrame : Obligations.FrameStartClosesAndOpensTheFrame := by
  intro s k hk
  have settings : s.frameClosed.settings = s.settings := by rw [s.frameClosed_eq]
  have limit : s.frameClosed.supplyLimitNow = s.supplyLimitNow := by
    rw [s.frameClosed_eq]
    rfl
  have fates := fun z => State.openFrame_zone (State.frameClosed_duty hk) z
  rw [settings, limit] at fates
  refine ⟨_, exec_frameStart_eq s, fun z => ?_, fun z => ?_, fun z => ?_, fun z => ?_, fun h => ?_, fun i => ?_,
    fun i j => ?_, fun h i j => ?_, s.frameStart_eq⟩
  · rw [State.readyTest_zones, State.frameOpened_zone hk]
    rfl
  · rw [s.frameStart_firing]
    exact (fates z).1
  · rw [s.frameStart_firing]
    exact (fates z).2.1
  · rw [s.frameStart_firing]
    exact (fates z).2.2
  · rw [s.frameStart_platen, s.frameStart_dwell, s.frameOpened_readyOutcome]
    rcases h with h | h <;> rw [h] <;> exact ⟨rfl, rfl⟩
  · rw [s.frameStart_row]
  · rw [s.frameStart_cavity, s.shortRows_cavity]
    split
    · exact Cavity.giveNote_frame _ _ _
    · rfl
  · rw [s.frameStart_cavity, s.shortRows_cavity, if_neg]
    rintro ⟨running, -, ⟨z, -, short⟩ | ⟨z, -, short⟩⟩ <;>
      exact h.elim (fun hn => hn (Option.isSome_iff_ne_none.1 running)) fun none => absurd (none z) short.ne'

end

section
/-! The cure step of a row, cavity by cavity (R9, R66 to R79). -/

namespace Sys2Proof.Machine

/-! ### The parts of a cure step -/

/-- A note goes by the notes of a cavity and by whether its record is due, not by its cure. -/
theorem Cavity.giveNote_update (c : Cavity) (cure : CureStatus) (reached : Option Nat) (acc : Nat) (peak : Option Int)
    (scorch : Nat) (kind : NoteKind) (offset : Nat) :
    { c with cure := cure, reached := reached, acc := acc, peak := peak, scorch := scorch }.giveNote kind offset =
      { c.giveNote kind offset with cure := cure, reached := reached, acc := acc, peak := peak, scorch := scorch } := by
  simp only [Cavity.giveNote]
  split_ifs <;> rfl

/-- The cure-reached test as one record (R74). -/
theorem Cavity.reachTest_eq (n : Nat) (c : Cavity) : c.reachTest n = { c with
    cure := if c.cure = .curing ∧ c.targetAdj.getD 0 * 256 ≤ c.acc then .reached else c.cure
    reached := if c.cure = .curing ∧ c.targetAdj.getD 0 * 256 ≤ c.acc then some n else c.reached } := by
  unfold Cavity.reachTest
  split <;> rfl

/-- A cavity with a trace point that may be due: appended, or dropped with the mark and, once, the note (R77). -/
def Cavity.traced (due : Prop) [Decidable due] (n : Nat) (theta : Int) (c : Cavity) : Cavity :=
  { (if (due ∧ 32 ≤ c.trace.length) ∧ c.traceFull = false then c.giveNote .traceTruncated n else c) with
    trace := if due ∧ c.trace.length < 32 then c.trace ++ [theta] else c.trace
    traceFull := c.traceFull || decide (due ∧ 32 ≤ c.trace.length) }

theorem Cavity.tracePoint_eq (due : Prop) [Decidable due] (n : Nat) (theta : Int) (c : Cavity) :
    (if due then c.tracePoint n theta else c) = c.traced due n theta := by
  rw [Cavity.traced]
  by_cases h : due
  · by_cases room : c.trace.length < 32
    · simp [h, room, not_le.2 room, Cavity.tracePoint, Config.tracePoints]
    · cases full : c.traceFull
      · have frame := c.giveNote_frame .traceTruncated n
        simp only [h, room, not_lt.1 room, Cavity.tracePoint, Config.tracePoints, full, if_true, if_false, and_self,
          and_false, decide_true, Bool.or_true, Bool.false_eq_true]
        rw [frame]
      · have eta : c = { c with traceFull := true } := by
          obtain ⟨⟩ := c
          cases full
          rfl
        simpa [h, room, Cavity.tracePoint, Config.tracePoints, full] using eta
  · simp [h]

/-- A trace point writes trace, mark and notes. -/
theorem Cavity.traced_frame (due : Prop) [Decidable due] (n : Nat) (theta : Int) (c : Cavity) :
    c.traced due n theta = { c with
      notes := (c.traced due n theta).notes
      notesDropped := (c.traced due n theta).notesDropped
      trace := (c.traced due n theta).trace
      traceFull := (c.traced due n theta).traceFull } := by
  rw [Cavity.traced]
  split
  · rw [Cavity.giveNote_frame]
  · rfl

/-- A trace point goes by trace, mark and notes, not by the cure. -/
theorem Cavity.traced_update (due : Prop) [Decidable due] (n : Nat) (theta : Int) (c : Cavity) (cure : CureStatus)
    (reached : Option Nat) (acc : Nat) (peak : Option Int) (scorch : Nat) :
    { c with cure := cure, reached := reached, acc := acc, peak := peak, scorch := scorch }.traced due n theta =
      { c.traced due n theta with cure := cure, reached := reached, acc := acc, peak := peak, scorch := scorch } := by
  rw [Cavity.traced, Cavity.traced, Cavity.giveNote_update]
  by_cases dropped : (due ∧ 32 ≤ c.trace.length) ∧ c.traceFull = false
  · simp only [dropped, and_self, if_true]
  · simp only [dropped, if_false]

/-- The peak after a temperature, by the peak before it (R75). -/
def peakAfter (theta : Int) (peak : Option Int) : Int :=
  match peak with
  | some p => max p theta
  | none => theta

theorem elim_max_eq_peakAfter (theta : Int) (peak : Option Int) :
    (peak.elim theta fun p => max p theta) = peakAfter theta peak := by cases peak <;> rfl

/-- A cavity that has taken a temperature: accumulator, test against its target, peak, scorch count and trace. -/
def Cavity.heated (r : Recipe) (n : Nat) (theta : Int) (c : Cavity) : Cavity :=
  { c.traced (n % r.traceInterval = 0) n theta with
    acc := min (c.acc + rateFactor r theta) 4294967295
    peak := some (peakAfter theta c.peak)
    scorch := if theta > r.scorchTemp then min (c.scorch + 1) 65535 else c.scorch }.reachTest n

theorem Cavity.heat_eq (r : Recipe) (n : Nat) (theta : Int) (c : Cavity) :
    (let c₃ := (((c.accumulate (rateFactor r theta)).reachTest n).updatePeak theta).countScorch r.scorchTemp theta
     if n % r.traceInterval = 0 then c₃.tracePoint n theta else c₃) = c.heated r n theta := by
  dsimp only
  rw [Cavity.tracePoint_eq, Cavity.countScorch_eq, Cavity.updatePeak_eq, Cavity.reachTest_eq, Cavity.heated,
    Cavity.reachTest_eq]
  dsimp only [Cavity.accumulate]
  rw [Cavity.traced_update, elim_max_eq_peakAfter]
  have frame := c.traced_frame (n % r.traceInterval = 0) n theta
  generalize c.traced (n % r.traceInterval = 0) n theta = traced at frame ⊢
  rw [frame]
  rfl

theorem Cavity.cureStep_of_unstepped {c : Cavity} (h : ¬(c.cure = .curing ∨ c.cure = .reached)) (r : Recipe) (n : Nat)
    (offset : Int) (top bottom : Option Int) : c.cureStep r n offset top bottom = c := if_neg h

theorem Cavity.cureStep_of_temperature {c : Cavity} (h : c.cure = .curing ∨ c.cure = .reached) (r : Recipe) (n : Nat)
    {offset theta : Int} {top bottom : Option Int} (temperature : cavityTemperature offset top bottom = some theta) :
    c.cureStep r n offset top bottom = (c.giveNote? (temperatureNote top bottom) n).heated r n theta := by
  rw [Cavity.cureStep, if_pos h, temperature, ← Cavity.heat_eq]

theorem Cavity.cureStep_blind {c : Cavity} (h : c.cure = .curing ∨ c.cure = .reached) (r : Recipe) (n : Nat)
    (offset : Int) : c.cureStep r n offset none none =
      { c.giveNote .blind n with blind := min (c.blind + 1) 65535 }.reachTest n := by
  have blind : (c.giveNote .blind n).blind = c.blind := by rw [Cavity.giveNote_frame]
  rw [← blind, Cavity.cureStep, if_pos h]
  rfl

/-! ### The usable readings (R67) -/

theorem Zone.usable_eq_some_iff (now : Clock) (staleMs : Nat) (z : Zone) (reading : Int) :
    z.usable now staleMs = some reading ↔ z.sensor = .ok ∧ z.reading = some reading ∧
      ∀ at_, z.arrival = some at_ → elapsed now at_ ≤ staleMs := by
  have young : z.tooOld now staleMs = false ↔ ∀ at_, z.arrival = some at_ → elapsed now at_ ≤ staleMs := by
    rw [Zone.tooOld]
    cases z.arrival <;> simp
  rw [Zone.usable, Option.ite_none_right_eq_some, young, and_assoc, and_comm (a := ∀ at_, _)]

theorem State.usableReading_eq_some_iff (s : State) (zone : Nat) (reading : Int) :
    s.usableReading zone = some reading ↔ ∃ z : Fin 12, z.val = zone ∧
      (s.regulator.zones.get z).sensor = .ok ∧ (s.regulator.zones.get z).reading = some reading ∧
      ∀ at_, (s.regulator.zones.get z).arrival = some at_ → elapsed s.clock at_ ≤ s.settings.sampleStaleMs := by
  unfold State.usableReading at12
  split
  · next h =>
    rw [Vec.get_map, Zone.usable_eq_some_iff]
    refine ⟨fun hu => ⟨⟨zone, h⟩, rfl, hu⟩, ?_⟩
    rintro ⟨z, rfl, hu⟩
    exact hu
  · next h =>
    refine ⟨(nomatch ·), ?_⟩
    rintro ⟨z, rfl, -⟩
    exact absurd z.isLt h

/-! ### The row -/

/-- A row through a cure step, without the release that may follow. -/
abbrev State.curedRow (s : State) (i : Fin 8) : Row := (s.row i).cureStep (s.rowRecipe i) s.usableReading

/-- The cure step releases the row. -/
abbrev State.CureReleases (s : State) (i : Fin 8) : Prop := (s.row i).state = .curing ∧ (s.curedRow i).released = true

/-- The state after a cure step of a row. -/
def State.cured (s : State) (i : Fin 8) : State :=
  { s with
    rows := s.rows.set i { s.curedRow i with
      state := if s.CureReleases i then .releasable else (s.row i).state
      rowTimer := if s.CureReleases i then none else (s.row i).rowTimer }
    ports := { s.ports with
      press := if s.CureReleases i then s.ports.press.raise .releasable else s.ports.press } }

theorem State.cured_row (s : State) (i : Fin 8) : (s.cured i).row i = { s.curedRow i with
    state := if s.CureReleases i then .releasable else (s.row i).state
    rowTimer := if s.CureReleases i then none else (s.row i).rowTimer } := Vec.get_set_self _ _ _

theorem State.cured_cavity {s : State} {i k : Fin 8} (hk : (s.row i).recipe = some k) (j : Fin 8) :
    (s.cured i).cavity i j = (s.cavity i j).cureStep (s.recipeAt k) (min ((s.row i).elapsed + 1) 65535)
      ((s.recipeAt k).offset.get j) (s.usableReading ((s.recipeAt k).topZone.get j))
      (s.usableReading ((s.recipeAt k).bottomZone.get j)) := by
  rw [State.cavity, s.cured_row, ← State.rowRecipe_of_some hk]
  exact Vec.get_mapIdx _ _ _

/-- The release condition, on the cavities as the cure step leaves them (R6). -/
theorem State.cureReleases_iff {s : State} {i k : Fin 8} (hk : (s.row i).recipe = some k) : s.CureReleases i ↔
    (s.row i).state = .curing ∧ ∀ j, (s.cavity i j).charge = .charged →
      ((s.cured i).cavity i j).cure = .reached ∨ ((s.cured i).cavity i j).cure = .timedOut := by
  refine and_congr_right fun _ => (Row.released_iff _).trans (forall_congr' fun j => ?_)
  have charge : ((s.cured i).cavity i j).charge = (s.cavity i j).charge := by
    rw [State.cured_cavity hk]
    exact (Cavity.cureStep_alike _ _ _ _ _ _).charge
  have cavity : (s.curedRow i).cavities.get j = (s.cured i).cavity i j := by rw [State.cavity, s.cured_row]
  rw [cavity, charge]

theorem exec_cureStep {s : State} {i : Fin 8} {ms : Nat} (h : (s.row i).stepTimer = some ms) :
    exec (.cureStep i) s = .next (s.cured i) := by
  change (if (s.row i).stepTimer.isSome = true then _ else _) = _
  rw [if_pos (by rw [h]; rfl), State.tryRelease, State.row_setRow_self]
  change Host.Outcome.next (if s.CureReleases i then _ else _) = _
  by_cases released : s.CureReleases i
  · rw [if_pos released, State.enterReleasable_setRow, State.cured]
    simp only [if_pos released]
  · rw [if_neg released, State.cured]
    simp only [if_neg released]
    rfl

end Sys2Proof.Machine
end

section
open Sys2Proof Sys2Proof.Machine

/-- Settles O45: the cavities by the usable readings of their zones, then the row and the state. -/
theorem cureStepIntegratesTheRow : Obligations.CureStepIntegratesTheRow := by
  intro s i k ms timer hk
  have usable := s.usableReading_eq_some_iff
  have blind : ∀ zone, (∀ reading, ¬∃ z : Fin 12, z.val = zone ∧ (s.regulator.zones.get z).sensor = .ok ∧
      (s.regulator.zones.get z).reading = some reading ∧ ∀ at_, (s.regulator.zones.get z).arrival = some at_ →
        elapsed s.clock at_ ≤ s.settings.sampleStaleMs) → s.usableReading zone = none := fun zone h =>
    Option.eq_none_iff_forall_ne_some.2 fun reading hr => h reading ((usable zone reading).1 hr)
  have cavity := State.cured_cavity hk
  refine ⟨_, exec_cureStep timer, fun j idle => ?_, fun j a b stepped top bottom => ?_,
    fun j a stepped top bottom => ?_, fun j b stepped top bottom => ?_, fun j stepped top bottom => ?_, ?_, ?_⟩
  · rw [cavity, Cavity.cureStep_of_unstepped idle]
  · rw [cavity, (usable _ a).2 top, (usable _ b).2 bottom, Cavity.cureStep_of_temperature stepped _ _ rfl, Cavity.heated,
      Cavity.reachTest_eq]
    rfl
  · rw [cavity, (usable _ a).2 top, blind _ bottom, Cavity.cureStep_of_temperature stepped _ _ rfl, Cavity.heated,
      Cavity.reachTest_eq]
    rfl
  · rw [cavity, blind _ top, (usable _ b).2 bottom, Cavity.cureStep_of_temperature stepped _ _ rfl, Cavity.heated,
      Cavity.reachTest_eq]
    rfl
  · rw [cavity, blind _ top, blind _ bottom, Cavity.cureStep_blind stepped, Cavity.reachTest_eq]
  · rw [s.cured_row]
    by_cases released : s.CureReleases i
    · simp only [if_pos released, if_pos ((State.cureReleases_iff hk).1 released)]
      rfl
    · simp only [if_neg released, if_neg fun h => released ((State.cureReleases_iff hk).2 h)]
      rfl
  · rw [s.cured_row]
    by_cases released : s.CureReleases i
    · simp only [if_pos released, if_pos ((State.cureReleases_iff hk).1 released)]
      simp only [State.cured, if_pos released]
    · simp only [if_neg released, if_neg fun h => released ((State.cureReleases_iff hk).2 h)]
      simp only [State.cured, if_neg released]

end

section
/-! Pan samples within a settle run, the extraction grant, and the level inputs. -/

namespace Sys2Proof.Machine

/-! ### A pan sample within a settle run (R86 to R88) -/

theorem exec_panSample (value : BitVec 16) (s : State) :
    exec (.sampleArrival 12 value) s = .next (s.panSample value.toNat) := rfl

theorem withinBand_iff (ref band value : Nat) :
    withinBand ref band value = true ↔ ref ≤ value + band ∧ value ≤ ref + band := by
  simp only [withinBand, Bool.and_eq_true, decide_eq_true_iff]

/-- A sample joins the readings within the band of the reference, or is the new reference (R88). -/
theorem SettleRun.take_eq (run : SettleRun) (value : Nat) (near : Prop) [Decidable near]
    (h : near ↔ ∃ ref, run.reference = some ref ∧ ref ≤ value + run.band ∧ value ≤ ref + run.band) :
    run.take value = { run with
      reference := if near then run.reference else some value
      count := if near then run.count + 1 else 1
      sum := if near then run.sum + value else value } := by
  unfold SettleRun.take
  split
  · next ref hr =>
    have hw : withinBand ref run.band value = true ↔ near := by
      rw [withinBand_iff, h, hr]
      simp
    by_cases hn : near
    · simp only [if_pos hn, if_pos (hw.2 hn)]
    · simp only [if_neg hn, if_neg fun hb => hn (hw.1 hb)]
  · next hr =>
    have hn : ¬near := fun hn => by
      obtain ⟨ref, hs, -⟩ := h.1 hn
      rw [hr] at hs
      cases hs
    simp only [if_neg hn]

/-- A pan sample while a run goes on: an overload, the last sample that settles it, or one more. -/
theorem State.panSample_of_run {s : State} {run : SettleRun} (h : s.weigh.run = some run) (value : Nat) :
    s.panSample value =
      let u := fun r : SettleRun => { s with weigh := { s.weigh with run := some r, pan := some value } }
      if 60000 < value then (u run.countSample).endRun .overload
      else if (run.countSample.take value).settleCount ≤ (run.countSample.take value).count then
        (u (run.countSample.take value)).endRun
          (.settled ((run.countSample.take value).sum / (run.countSample.take value).count))
      else u (run.countSample.take value) := by
  simp only [State.panSample, h]
  rfl

/-! ### The extraction grant (R105) -/

theorem State.permitsDemould_iff (s : State) : s.permitsDemould = true ↔ s.extraction.inputs.combination ≠ 0 ∧
    s.settings.interlockPattern.getLsbD s.extraction.inputs.combination = true := permitted_iff _ _

theorem takeExtractGrant_of_names {s : State} {shot : Nat} {i : Fin 8} (hn : s.Names shot i) (j : Fin 8) :
    takeExtractGrant shot j.val s =
    if (s.row i).state ≠ .opened ∨ (s.cavity i j).tool ≠ .inTool then (s, .deny .wrongState)
    else if s.extraction.grant.isSome then (s, .deny .grantHeld)
    else if !s.permitsDemould then (s, .deny .interlock)
    else
      ({ s.modifyCavity i j (fun c => { c with tool := .granted }) with
          extraction := { s.extraction with grant := some { row := i, shot := shot, cavity := j } } },
        .plain .granted) :=
  State.onCavity_of_names hn j _

theorem exec_extractGrant_denied {s : State} {shot : Nat} {j : Fin 8} {why : DenyReason}
    (h : takeExtractGrant shot j.val s = (s, .deny why)) :
    exec (.extractGrant shot j.val) s = .next { s with reply := some (.extract, ⟨.denied, [.byte why.code]⟩) } := by
  rw [exec_extractGrant, h]
  rfl

/-! ### The interlock inputs (R103, R107, R108) -/

theorem Interlocks.level_setLevel_self (x : Interlocks) (input : InterlockInput) (level : Bool) :
    (x.setLevel input level).level input = level := by cases input <;> rfl

theorem Interlocks.level_setLevel_ne (x : Interlocks) {input other : InterlockInput} (level : Bool)
    (h : other ≠ input) : (x.setLevel input level).level other = x.level other := by
  cases input <;> cases other <;> first | rfl | exact absurd rfl h

theorem exec_interlockChange_same {input : InterlockInput} {level : Bool} {s : State}
    (h : s.extraction.inputs.level input = level) : exec (.interlockChange input level) s = .next s := if_pos h

/-- The state with an interlock input at another level. -/
abbrev State.withInterlock (s : State) (input : InterlockInput) (level : Bool) : State :=
  { s with extraction := { s.extraction with inputs := s.extraction.inputs.setLevel input level } }

section
variable {s : State} {input : InterlockInput} {level : Bool} (h : s.extraction.inputs.level input ≠ level)
include h

theorem exec_interlockChange_kept (hp : s.extraction.grant = none ∨ (s.withInterlock input level).permitsDemould = true) :
    exec (.interlockChange input level) s = .next (s.withInterlock input level) := by
  change execInterlockChange input level s = _
  rw [execInterlockChange, if_neg h]
  dsimp only
  split
  · next g hg => rw [if_pos (hp.resolve_left (by rw [hg]; exact Option.some_ne_none g))]
  · rfl

theorem exec_interlockChange_revoked {g : Grant} (hg : s.extraction.grant = some g)
    (hp : ¬(s.withInterlock input level).permitsDemould = true) :
    exec (.interlockChange input level) s = .next ((s.withInterlock input level).revoke g) := by
  change execInterlockChange input level s = _
  rw [execInterlockChange, if_neg h]
  simp only [hg]
  exact if_neg hp

end

/-- A note goes by the notes of a cavity and by whether its record is due, not by its tool status. -/
theorem Cavity.giveNote_withTool (c : Cavity) (tool : ToolStatus) (kind : NoteKind) (offset : Nat) :
    { c with tool := tool }.giveNote kind offset = { c.giveNote kind offset with tool := tool } := by
  simp only [Cavity.giveNote]
  split_ifs <;> rfl

theorem Row.windowExpired_iff (r : Row) : r.windowExpired = true ↔ r.state = .opened ∧ r.rowTimer = none := by
  simp [Row.windowExpired]

/-- The state after a grant is revoked: the note, GRANT_REVOKED, and the cavity at a tool status (R107). -/
def State.revoked (s : State) (g : Grant) (tool : ToolStatus) : State :=
  { s with
    rows := s.rows.set g.row { s.row g.row with
      cavities := (s.row g.row).cavities.set g.cavity
        { (s.cavity g.row g.cavity).giveNote .interlockBreak (noteOffset s.clock (s.row g.row)) with tool := tool } }
    extraction := { s.extraction with grant := none }
    ports := { s.ports with extract := s.ports.extract.raise .grantRevoked } }

theorem State.revoked_of_closed {s : State} {g : Grant} {closedAt : Clock}
    (closed : (s.row g.row).timeClosed = some closedAt) (tool : ToolStatus) : s.revoked g tool = { s with
      rows := s.rows.set g.row { s.row g.row with
        cavities := (s.row g.row).cavities.set g.cavity
          { (s.cavity g.row g.cavity).giveNote .interlockBreak (min (elapsed s.clock closedAt / 1000) 65535) with
            tool := tool } }
      extraction := { s.extraction with grant := none }
      ports := { s.ports with extract := s.ports.extract.raise .grantRevoked } } := by
  rw [State.revoked, noteOffset_of_closed closed]

theorem State.revoked_withTool (s : State) (g : Grant) (tool tool' : ToolStatus) :
    ((s.revoked g tool).modifyCavity g.row g.cavity fun c => { c with tool := tool' }) = s.revoked g tool' := by
  simp [State.revoked, State.modifyCavity, State.setRow, State.row, Row.modifyCavity, Vec.modify]

/-- A revoked grant leaves its cavity IN_TOOL, or abandons it where the window has expired (R107, R108). -/
theorem State.revoke_eq (s : State) (g : Grant) : s.revoke g =
    if (s.row g.row).state = .opened ∧ (s.row g.row).rowTimer = none then
      ((s.revoked g .abandoned).recordDue g.row g.cavity .abandoned).raise .extract .demouldExpired
    else s.revoked g .inTool := by
  have noted : (({ s with extraction := { s.extraction with grant := none } } : State).modifyCavity g.row g.cavity
      (fun c => { c with tool := .inTool }.giveNote .interlockBreak (noteOffset s.clock (s.row g.row)))).raise .extract
        .grantRevoked = s.revoked g .inTool := by
    simp only [Cavity.giveNote_withTool]
    rfl
  rw [State.revoke]
  dsimp only
  rw [noted, State.abandon, State.revoked_withTool]
  exact if_congr (Row.windowExpired_iff _) rfl rfl

end Sys2Proof.Machine
end

section
open Sys2Proof Sys2Proof.Machine

/-- Settles O48: a sample is an overload, the last of its run, or one more. -/
theorem panSamplesSettleTheRun : Obligations.PanSamplesSettleTheRun := by
  intro s run value hrun
  have taken := SettleRun.take_eq run.countSample value.toNat _ Iff.rfl
  have sample := State.panSample_of_run hrun value.toNat
  refine ⟨fun high => ?_, fun within => ⟨fun goes => ?_, fun settles => ?_⟩⟩
  · rw [exec_panSample, sample]
    exact congrArg Host.Outcome.next (if_pos high)
  · rw [exec_panSample, sample, taken]
    exact congrArg Host.Outcome.next ((if_neg (not_lt.2 within)).trans (if_neg (not_le.2 goes)))
  · rw [exec_panSample, sample, taken]
    exact congrArg Host.Outcome.next ((if_neg (not_lt.2 within)).trans (if_pos settles))

/-- Settles O51: the three checks in their order. -/
theorem extractGrantFollowsItsChecks : Obligations.ExtractGrantFollowsItsChecks := by
  intro s shot i j hn
  have take := takeExtractGrant_of_names hn j
  refine ⟨fun hw => ?_, fun hs ht => ⟨fun hg => ?_, fun hg hp => ?_, fun hg hp => ?_⟩⟩
  · exact exec_extractGrant_denied (take.trans (if_pos hw))
  all_goals rw [if_neg (not_or.2 ⟨not_not.2 hs, not_not.2 ht⟩)] at take
  · exact exec_extractGrant_denied (take.trans (if_pos (Option.isSome_iff_ne_none.2 hg)))
  all_goals rw [if_neg (by simp [hg])] at take
  · exact exec_extractGrant_denied (take.trans (if_pos (by simpa using fun h => hp (s.permitsDemould_iff.1 h))))
  · rw [if_neg (by simpa using s.permitsDemould_iff.2 hp)] at take
    rw [exec_extractGrant, take]
    rfl

/-- Settles O52: the inputs are levels; an interlock combination that is not permitted revokes the grant. -/
theorem inputLevelsAreTaken : Obligations.InputLevelsAreTaken := by
  intro s level
  refine ⟨rfl, rfl, fun input => ⟨exec_interlockChange_same, fun h =>
    ⟨s.extraction.inputs.setLevel input level, Interlocks.level_setLevel_self _ _ _,
      fun other ho => Interlocks.level_setLevel_ne _ _ ho, fun hp => ?_, fun g closedAt hg hp closed => ?_⟩⟩⟩
  · exact exec_interlockChange_kept h (hp.imp_right (State.permitsDemould_iff _).2)
  · rw [exec_interlockChange_revoked h hg fun permits => hp ((State.permitsDemould_iff _).1 permits), State.revoke_eq,
      State.revoked_of_closed (s := s.withInterlock input level) closed,
      State.revoked_of_closed (s := s.withInterlock input level) closed]
    rfl

end

section
/-! The receiver of a port: bytes hunted through, a frame taken in one piece or in parts, and a damaged frame (R158,
R159). -/

namespace Sys2Proof.Machine

/-! ### The state of one port -/

theorem State.port_setReceiver (s : State) (p : PortId) (r : Receiver) :
    (s.setReceiver p r).port p = { s.port p with receiver := r } := State.port_setPort_self _ _ _

theorem State.setPort_setPort (s : State) (p : PortId) (q q' : Port) : (s.setPort p q).setPort p q' = s.setPort p q' := by
  cases p <;> rfl

theorem State.setPort_port (s : State) (p : PortId) : s.setPort p (s.port p) = s := by cases p <;> rfl

theorem State.setReceiver_setReceiver (s : State) (p : PortId) (r r' : Receiver) :
    (s.setReceiver p r).setReceiver p r' = s.setReceiver p r' := by
  rw [State.setReceiver, s.port_setReceiver]
  exact s.setPort_setPort p _ _

theorem State.setReceiver_self {s : State} {p : PortId} {r : Receiver} (h : (s.port p).receiver = r) :
    s.setReceiver p r = s := by
  subst h
  exact s.setPort_port p

theorem State.damageFrame_setReceiver (s : State) (p : PortId) (r : Receiver) :
    (s.setReceiver p r).damageFrame p = s.damageFrame p := by
  rw [State.damageFrame, s.port_setReceiver]
  exact s.setPort_setPort p _ _

theorem State.frameProgress_cons (s : State) (p : PortId) (len : Byte) (rest : List Byte) :
    s.frameProgress p (len :: rest) =
      if len = 0#8 then s.damageFrame p
      else if rest.length < len.toNat + 2 then s.setReceiver p (.inFrame (len :: rest) s.clock)
      else if be2 (crc16 (len :: rest.take len.toNat)).toNat = rest.drop len.toNat then
        (s.setReceiver p .hunting).offerFrame p ((rest.take len.toNat).headD 0#8) (rest.take len.toNat).tail
      else s.damageFrame p := rfl

/-- The bytes taken so far decide how a frame goes on, not the receiver's state before the last of them. -/
theorem State.frameProgress_setReceiver (s : State) (p : PortId) (r : Receiver) {bytes : List Byte} (h : bytes ≠ []) :
    (s.setReceiver p r).frameProgress p bytes = s.frameProgress p bytes := by
  obtain ⟨len, rest, rfl⟩ := List.exists_cons_of_ne_nil h
  rw [State.frameProgress_cons, State.frameProgress_cons]
  simp only [State.setReceiver_setReceiver, State.damageFrame_setReceiver]
  rfl

/-! ### Bytes, one after the other -/

/-- The state after bytes have arrived on a port. -/
def State.receive (s : State) (p : PortId) (bytes : List Byte) : State := bytes.foldl (State.receiveByte p) s

theorem exec_frameReceived (p : PortId) (bytes : List Byte) (s : State) :
    exec (.frameReceived p bytes) s = .next (s.receive p bytes) := rfl

theorem State.receive_append (s : State) (p : PortId) (first second : List Byte) :
    s.receive p (first ++ second) = (s.receive p first).receive p second := List.foldl_append

theorem State.receive_cons (s : State) (p : PortId) (b : Byte) (bytes : List Byte) :
    s.receive p (b :: bytes) = (s.receiveByte p b).receive p bytes := rfl

section
variable {s : State} {p : PortId} (hunting : (s.port p).receiver = .hunting)
include hunting

/-- While hunting, every byte but 0x7E is discarded. -/
theorem State.receive_noise {noise : List Byte} (h : ∀ b ∈ noise, b ≠ 0x7E#8) : s.receive p noise = s := by
  induction noise with
  | nil => rfl
  | cons b noise ih =>
    rw [State.receive_cons, State.receiveByte_hunting b hunting, State.huntByte, if_neg (h b List.mem_cons_self)]
    exact ih fun c hc => h c (List.mem_cons_of_mem b hc)

/-- While hunting, 0x7E starts a frame. -/
theorem State.receiveByte_sync : s.receiveByte p 0x7E#8 = s.setReceiver p (.inFrame [] s.clock) :=
  State.receiveByte_hunting _ hunting

end

/-- The bytes after a sync do not end their frame yet. -/
def Unfinished (bytes : List Byte) : Prop :=
  ∀ len rest, bytes = len :: rest → len ≠ 0#8 ∧ rest.length < len.toNat + 2

theorem Unfinished.of_append {bytes more : List Byte} (h : Unfinished (bytes ++ more)) : Unfinished bytes := by
  rintro len rest rfl
  obtain ⟨hlen, hrest⟩ := h len (rest ++ more) rfl
  rw [List.length_append] at hrest
  exact ⟨hlen, by omega⟩

theorem elapsed_self (t : Clock) : elapsed t t = 0 := by simp [elapsed]

/-- A byte that does not end its frame yet joins the bytes taken so far. -/
theorem State.frameProgress_unfinished (s : State) (p : PortId) {bytes : List Byte} {b : Byte}
    (h : Unfinished (bytes ++ [b])) : s.frameProgress p (bytes ++ [b]) = s.setReceiver p (.inFrame (bytes ++ [b]) s.clock) := by
  obtain ⟨len, rest, hb⟩ := List.exists_cons_of_ne_nil (l := bytes ++ [b]) (by simp)
  obtain ⟨hlen, hrest⟩ := h len rest hb
  rw [hb, State.frameProgress_cons, if_neg hlen, if_pos hrest]

/-- A byte that comes at once finds its frame in time. -/
theorem State.receiveByte_inFrame_now (s : State) (p : PortId) (bytes : List Byte) (b : Byte) :
    (s.setReceiver p (.inFrame bytes s.clock)).receiveByte p b = s.frameProgress p (bytes ++ [b]) := by
  have receiver : ((s.setReceiver p (.inFrame bytes s.clock)).port p).receiver = .inFrame bytes s.clock := by
    rw [State.port_setReceiver]
  have inTime : elapsed (s.setReceiver p (.inFrame bytes s.clock)).clock s.clock ≤ 10 :=
    (elapsed_self s.clock).trans_le (Nat.zero_le 10)
  rw [State.receiveByte_inTime b receiver inTime, State.frameProgress_setReceiver _ _ _ (by simp)]

/-- Bytes that do not end the frame yet join it. -/
theorem State.receive_unfinished (s : State) (p : PortId) (bytes more : List Byte) (h : Unfinished (bytes ++ more)) :
    (s.setReceiver p (.inFrame bytes s.clock)).receive p more = s.setReceiver p (.inFrame (bytes ++ more) s.clock) := by
  induction more generalizing bytes with
  | nil => rw [List.append_nil]; rfl
  | cons b more ih =>
    have assoc : bytes ++ b :: more = bytes ++ [b] ++ more := by simp
    rw [assoc] at h ⊢
    rw [State.receive_cons, State.receiveByte_inFrame_now, State.frameProgress_unfinished s p h.of_append]
    exact ih _ h

section
variable {s : State} {p : PortId} (hunting : (s.port p).receiver = .hunting)
include hunting

theorem State.receive_start {bytes : List Byte} (h : Unfinished bytes) :
    s.receive p (0x7E#8 :: bytes) = s.setReceiver p (.inFrame bytes s.clock) := by
  rw [State.receive_cons, State.receiveByte_sync hunting]
  exact s.receive_unfinished p [] bytes h

/-- A frame of length 0 is damaged. -/
theorem State.receive_empty : s.receive p [0x7E#8, 0#8] = s.damageFrame p := by
  rw [State.receive_cons, State.receiveByte_sync hunting, State.receive_cons, State.receiveByte_inFrame_now]
  rfl

/-- A whole frame, the last byte of its check the last to arrive: taken, or damaged where the check disagrees. -/
theorem State.receive_frame {len hi lo : Byte} {body : List Byte} (hlen : len ≠ 0#8) (hbody : body.length = len.toNat) :
    s.receive p (0x7E#8 :: len :: (body ++ [hi, lo])) =
      if be2 (crc16 (len :: body)).toNat = [hi, lo] then s.offerFrame p (body.headD 0#8) body.tail
      else s.damageFrame p := by
  have split : 0x7E#8 :: len :: (body ++ [hi, lo]) = 0x7E#8 :: (len :: (body ++ [hi])) ++ [lo] := by simp
  have unfinished : Unfinished (len :: (body ++ [hi])) := by
    rintro _ _ ⟨⟩
    exact ⟨hlen, by simp [hbody]⟩
  have whole : len :: (body ++ [hi]) ++ [lo] = len :: (body ++ [hi, lo]) := by simp
  have long : ¬(body ++ [hi, lo]).length < len.toNat + 2 := by simp [hbody]
  rw [split, State.receive_append, State.receive_start hunting unfinished]
  change (s.setReceiver p _).receiveByte p lo = _
  rw [State.receiveByte_inFrame_now, whole, State.frameProgress_cons, if_neg hlen, if_neg long,
    List.take_left' hbody, List.drop_left' hbody, State.setReceiver_self hunting]

/-- A good frame is offered to the waiting-frame buffer. -/
theorem State.receive_frameBytes (kind : Byte) {payload : List Byte} (h : payload.length ≤ 254) :
    s.receive p (frameBytes kind payload) = s.offerFrame p kind payload := by
  have length : (kind :: payload).length = (BitVec.ofNat 8 (payload.length + 1)).toNat := by
    rw [BitVec.toNat_ofNat, Nat.mod_eq_of_lt (by omega), List.length_cons]
  have nonzero : BitVec.ofNat 8 (payload.length + 1) ≠ 0#8 := fun h0 => by
    rw [h0] at length
    exact absurd length (by simp)
  exact (State.receive_frame hunting nonzero length).trans (if_pos rfl)

end

section
variable {s : State} {p : PortId} {bytes : List Byte} {at_ : Clock} {b : Byte}
  (inFrame : (s.port p).receiver = .inFrame bytes at_)
include inFrame

/-- A frame that goes on in time goes on as if all its bytes had come at once. -/
theorem State.receive_resume (inTime : elapsed s.clock at_ ≤ 10) (unfinished : Unfinished bytes) (more : List Byte) :
    s.receive p (b :: more) = (s.setReceiver p .hunting).receive p (0x7E#8 :: (bytes ++ b :: more)) := by
  have restart : (s.setReceiver p .hunting).receive p (0x7E#8 :: bytes) =
      (s.setReceiver p .hunting).setReceiver p (.inFrame bytes s.clock) :=
    State.receive_start (by rw [State.port_setReceiver]) unfinished
  rw [← List.cons_append, State.receive_append, restart, State.setReceiver_setReceiver, State.receive_cons,
    State.receive_cons, State.receiveByte_inFrame_now, State.receiveByte_inTime b inFrame inTime]

/-- A byte that comes too late finds its frame damaged, and is a hunting byte. -/
theorem State.receive_late (late : 10 < elapsed s.clock at_) (more : List Byte) :
    s.receive p (b :: more) = (s.damageFrame p).receive p (b :: more) := by
  have hunting : ((s.damageFrame p).port p).receiver = .hunting := by rw [State.damageFrame, State.port_setPort_self]
  rw [State.receive_cons, State.receive_cons, State.receiveByte_late b inFrame late, State.receiveByte_hunting b hunting]

end

theorem exec_frameGapTimeout {s : State} {p : PortId} {bytes : List Byte} {at_ : Clock}
    (h : (s.port p).receiver = .inFrame bytes at_) : exec (.frameGapTimeout p) s = .next (s.damageFrame p) := by
  change execFrameGapTimeout p s = _
  simp only [execFrameGapTimeout, h]

theorem State.offerFrame_of_waiting {s : State} {p : PortId} {w : WaitingFrame} (h : (s.port p).waiting = some w)
    (kind : Byte) (payload : List Byte) : s.offerFrame p kind payload =
      s.setPort p { s.port p with overruns := min ((s.port p).overruns + 1) 65535 } := by
  simp only [State.offerFrame, h]
  rfl

theorem State.offerFrame_of_free {s : State} {p : PortId} (h : (s.port p).waiting = none) (kind : Byte)
    (payload : List Byte) : s.offerFrame p kind payload =
      let t := dispatchFrame p kind payload s
      t.1.setPort p { t.1.port p with
        waiting := some { kind := kind, payload := payload, reply := frameBytes kind t.2.bytes } } := by
  simp only [State.offerFrame, h]

end Sys2Proof.Machine
end

section
open Sys2Proof Sys2Proof.Machine

/-- Settles O21: the receiver byte by byte. -/
theorem linkEventsCountAndClear : Obligations.LinkEventsCountAndClear := by
  intro p s
  refine ⟨fun hunting => ⟨fun kind payload w short waiting => ?_, fun len hi lo body hlen hbody wrong => ?_, ?_⟩,
    fun bytes at_ h => exec_frameGapTimeout h, ⟨fun hunting => ⟨fun noise h => ⟨?_, fun more => ?_⟩, fun bytes h => ?_⟩,
    fun first second => ⟨s.receive p first, rfl, ?_⟩, fun bytes at_ b more h => ⟨fun inTime unfinished => ?_,
    fun late => ?_⟩⟩, rfl⟩
  · exact congrArg Host.Outcome.next
      ((State.receive_frameBytes hunting kind short).trans (State.offerFrame_of_waiting waiting kind payload))
  · exact congrArg Host.Outcome.next
      ((State.receive_frame hunting hlen hbody).trans (if_neg fun h => wrong h.symm))
  · exact congrArg Host.Outcome.next (State.receive_empty hunting)
  · exact congrArg Host.Outcome.next (State.receive_noise hunting h)
  · rw [exec_frameReceived, exec_frameReceived, State.receive_append, State.receive_noise hunting h]
  · exact congrArg Host.Outcome.next (State.receive_start hunting h)
  · rw [exec_frameReceived, exec_frameReceived, State.receive_append]
  · exact congrArg Host.Outcome.next (State.receive_resume h inTime unfinished more)
  · exact congrArg Host.Outcome.next (State.receive_late h late more)

end

section
/-! The catalogue row by row, and the encoding of a request read back (R157, R160, R162). -/

namespace Sys2Proof.Machine

/-! ### The six shapes of a payload -/

theorem readEmpty_eq (i : Instr) (payload : List Byte) :
    readEmpty i payload = if payload.length = 0 then some i else none := by
  cases payload <;> simp [readEmpty]

theorem readByte_eq (f : Nat → Instr) (payload : List Byte) :
    readByte f payload = if payload.length = 1 then some (f (byteAt payload 0)) else none := by
  rcases payload with _ | ⟨a, _ | ⟨b, l⟩⟩ <;> simp [readByte, byteAt]

theorem readShot_eq (f : Nat → Instr) (payload : List Byte) :
    readShot f payload = if payload.length = 2 then some (f (wordAt payload 0)) else none := by
  rcases payload with _ | ⟨a, _ | ⟨b, _ | ⟨c, l⟩⟩⟩ <;> simp [readShot, wordAt]

theorem readShotByte_eq (f : Nat → Nat → Instr) (payload : List Byte) :
    readShotByte f payload = if payload.length = 3 then some (f (wordAt payload 0) (byteAt payload 2)) else none := by
  rcases payload with _ | ⟨a, _ | ⟨b, _ | ⟨c, _ | ⟨d, l⟩⟩⟩⟩ <;> simp [readShotByte, wordAt, byteAt]

theorem readShotBytes_eq (f : Nat → Nat → Nat → Instr) (payload : List Byte) :
    readShotBytes f payload =
      if payload.length = 4 then some (f (wordAt payload 0) (byteAt payload 2) (byteAt payload 3)) else none := by
  rcases payload with _ | ⟨a, _ | ⟨b, _ | ⟨c, _ | ⟨d, _ | ⟨e, l⟩⟩⟩⟩⟩ <;> simp [readShotBytes, wordAt, byteAt]

theorem readBytesQuantity_eq (f : Nat → Nat → Nat → Instr) (payload : List Byte) :
    readBytesQuantity f payload =
      if payload.length = 4 then some (f (byteAt payload 0) (byteAt payload 1) (wordAt payload 2)) else none := by
  rcases payload with _ | ⟨a, _ | ⟨b, _ | ⟨c, _ | ⟨d, _ | ⟨e, l⟩⟩⟩⟩⟩ <;> simp [readBytesQuantity, wordAt, byteAt]

/-! ### The rows of the catalogue (R162) -/

/-- Who may send a request, by the role that the catalogue gives it. -/
def senderOf : Option PortId → Sender
  | some role => .only role
  | none => .any

theorem senderOf_allows_iff (role : Option PortId) (p : PortId) :
    (senderOf role).allows p = true ↔ role = none ∨ role = some p := by
  cases role <;> simp [senderOf, Sender.allows]

/-- A payload has the size that the catalogue gives; SETTINGS_WRITE has no one size. -/
abbrev HasSize (size : Option Nat) (payload : List Byte) : Prop := size = none ∨ size = some payload.length

/-- A row of the catalogue: its kind, the role that may send it, the size of its payload, and its request. -/
abbrev CatalogueRow : Type := Byte × Option PortId × Option Nat × Instr

/-- What a row of the catalogue says of a payload that arrives on a port. -/
structure CatalogueRow.Holds (p : PortId) (payload : List Byte) (e : CatalogueRow) : Prop where
  listed : catalogue e.1.toNat = some (senderOf e.2.1)
  read : requestOf p e.1.toNat payload = if HasSize e.2.2.1 payload then some e.2.2.2 else none
  kindByte : e.2.2.2.kindByte = some e.1
  sent : e.2.2.2.sentOn p = (p == e.2.1.getD p)
  carried : HasSize e.2.2.1 payload → e.2.2.2.payload = payload

section
variable {p : PortId} {payload : List Byte} {kind : Byte} {role : Option PortId}

theorem hasSize_some_iff {n : Nat} : HasSize (some n) payload ↔ payload.length = n := by
  simp [HasSize, eq_comm]

theorem CatalogueRow.Holds.of_size {n : Nat} {i : Instr} (listed : catalogue kind.toNat = some (senderOf role))
    (read : requestOf p kind.toNat payload = if payload.length = n then some i else none)
    (kindByte : i.kindByte = some kind) (sent : i.sentOn p = (p == role.getD p))
    (carried : payload.length = n → i.payload = payload) :
    CatalogueRow.Holds p payload (kind, role, some n, i) where
  listed := listed
  read := read.trans (if_congr hasSize_some_iff.symm rfl rfl)
  kindByte := kindByte
  sent := sent
  carried h := carried (hasSize_some_iff.1 h)

theorem CatalogueRow.Holds.of_empty {i : Instr} (listed : catalogue kind.toNat = some (senderOf role))
    (read : requestOf p kind.toNat payload = readEmpty i payload) (kindByte : i.kindByte = some kind)
    (sent : i.sentOn p = (p == role.getD p)) (empty : i.payload = []) :
    CatalogueRow.Holds p payload (kind, role, some 0, i) :=
  .of_size listed (read.trans (readEmpty_eq _ _)) kindByte sent fun h => by
    rw [empty, List.length_eq_zero_iff.1 h]

theorem CatalogueRow.Holds.of_byte {f : Nat → Instr} (listed : catalogue kind.toNat = some (senderOf role))
    (read : requestOf p kind.toNat payload = readByte f payload) (kindByte : ∀ a, (f a).kindByte = some kind)
    (sent : ∀ a, (f a).sentOn p = (p == role.getD p)) (carried : ∀ a, (f a).payload = [BitVec.ofNat 8 a]) :
    CatalogueRow.Holds p payload (kind, role, some 1, f (byteAt payload 0)) :=
  .of_size listed (read.trans (readByte_eq _ _)) (kindByte _) (sent _) fun h => by
    obtain ⟨a, rfl⟩ := List.length_eq_one_iff.1 h
    rw [carried]
    simp [byteAt]

theorem CatalogueRow.Holds.of_shot {f : Nat → Instr} (listed : catalogue kind.toNat = some (senderOf role))
    (read : requestOf p kind.toNat payload = readShot f payload) (kindByte : ∀ a, (f a).kindByte = some kind)
    (sent : ∀ a, (f a).sentOn p = (p == role.getD p)) (carried : ∀ a, (f a).payload = be2 a) :
    CatalogueRow.Holds p payload (kind, role, some 2, f (wordAt payload 0)) :=
  .of_size listed (read.trans (readShot_eq _ _)) (kindByte _) (sent _) fun h => by
    rw [carried, be2_wordAt h]

theorem CatalogueRow.Holds.of_shotByte {f : Nat → Nat → Instr} (listed : catalogue kind.toNat = some (senderOf role))
    (read : requestOf p kind.toNat payload = readShotByte f payload) (kindByte : ∀ a b, (f a b).kindByte = some kind)
    (sent : ∀ a b, (f a b).sentOn p = (p == role.getD p))
    (carried : ∀ a b, (f a b).payload = be2 a ++ [BitVec.ofNat 8 b]) :
    CatalogueRow.Holds p payload (kind, role, some 3, f (wordAt payload 0) (byteAt payload 2)) :=
  .of_size listed (read.trans (readShotByte_eq _ _)) (kindByte _ _) (sent _ _) fun h => by
    obtain ⟨a, b, c, rfl⟩ := List.length_eq_three.1 h
    rw [carried, wordAt, be2_read2]
    simp [byteAt]

end

/-- The catalogue with the values that a payload carries (R162). -/
def catalogueRows (p : PortId) (payload : List Byte) : List CatalogueRow :=
  let shot := wordAt payload 0
  let byte := byteAt payload
  [(0x10#8, some .press, some 3, .openCycle shot (byte 2)), (0x11#8, some .press, some 2, .abortCycle shot),
   (0x12#8, some .press, some 2, .closePermit shot), (0x13#8, some .press, some 2, .closed shot),
   (0x14#8, some .press, some 2, .opened shot), (0x15#8, some .press, some 2, .releaseQuery shot),
   (0x16#8, some .press, some 1, .heatOn (byte 0)), (0x17#8, some .press, some 0, .heatOff),
   (0x20#8, some .charge, some 0, .tare), (0x21#8, some .charge, some 3, .weigh shot (byte 2)),
   (0x22#8, some .charge, some 0, .weighCancel), (0x23#8, some .charge, some 0, .weighResult),
   (0x24#8, some .charge, some 3, .admitCharge shot (byte 2)),
   (0x25#8, some .charge, some 3, .admitOverride shot (byte 2)),
   (0x30#8, some .extract, some 3, .extractGrant shot (byte 2)),
   (0x31#8, some .extract, some 4, .extractDone shot (byte 2) (byte 3)),
   (0x32#8, some .extract, some 3, .clear shot (byte 2)), (0x40#8, some .records, none, .settingsWrite payload),
   (0x41#8, some .records, some 214, .recipeWrite payload), (0x42#8, some .records, some 0, .lockStore),
   (0x43#8, some .records, some 0, .unlockStore),
   (0x44#8, some .records, some 4, .runSet (byte 0) (byte 1) (wordAt payload 2)),
   (0x45#8, some .records, some 0, .cellClear), (0x01#8, none, some 0, .status p), (0x02#8, none, some 0, .poll p),
   (0x03#8, none, some 1, .readback p (byte 0)), (0x04#8, none, some 1, .recipeRead p (byte 0)),
   (0x05#8, none, some 1, .runQuery p (byte 0)), (0x06#8, none, some 0, .settingsRead p),
   (0x07#8, none, some 2, .cycleQuery p shot)]

theorem extractDone_row (p : PortId) (payload : List Byte) : CatalogueRow.Holds p payload
    (0x31#8, some .extract, some 4, .extractDone (wordAt payload 0) (byteAt payload 2) (byteAt payload 3)) :=
  .of_size rfl (readShotBytes_eq _ _) rfl rfl fun h => by
    obtain ⟨a, b, c, d, rfl⟩ := List.length_eq_four.1 h
    change be2 (wordAt [a, b, c, d] 0) ++ [_, _] = _
    rw [wordAt, be2_read2]
    simp [byteAt]

theorem runSet_row (p : PortId) (payload : List Byte) : CatalogueRow.Holds p payload
    (0x44#8, some .records, some 4, .runSet (byteAt payload 0) (byteAt payload 1) (wordAt payload 2)) :=
  .of_size rfl (readBytesQuantity_eq _ _) rfl rfl fun h => by
    obtain ⟨a, b, c, d, rfl⟩ := List.length_eq_four.1 h
    change [_, _] ++ be2 (wordAt [a, b, c, d] 2) = _
    rw [wordAt, be2_read2]
    simp [byteAt]

theorem settingsWrite_row (p : PortId) (payload : List Byte) :
    CatalogueRow.Holds p payload (0x40#8, some .records, none, .settingsWrite payload) where
  listed := rfl
  read := (if_pos (.inl rfl)).symm
  kindByte := rfl
  sent := rfl
  carried _ := rfl

theorem recipeWrite_row (p : PortId) (payload : List Byte) :
    CatalogueRow.Holds p payload (0x41#8, some .records, some 214, .recipeWrite payload) :=
  .of_size rfl rfl rfl rfl fun _ => rfl

/-- Every row of the catalogue holds of every payload. -/
theorem catalogueRows_hold (p : PortId) (payload : List Byte) :
    ∀ e ∈ catalogueRows p payload, CatalogueRow.Holds p payload e := by
  simp only [catalogueRows, List.forall_mem_cons]
  exact ⟨.of_shotByte rfl rfl (fun _ _ => rfl) (fun _ _ => rfl) fun _ _ => rfl,
    .of_shot rfl rfl (fun _ => rfl) (fun _ => rfl) fun _ => rfl,
    .of_shot rfl rfl (fun _ => rfl) (fun _ => rfl) fun _ => rfl,
    .of_shot rfl rfl (fun _ => rfl) (fun _ => rfl) fun _ => rfl,
    .of_shot rfl rfl (fun _ => rfl) (fun _ => rfl) fun _ => rfl,
    .of_shot rfl rfl (fun _ => rfl) (fun _ => rfl) fun _ => rfl,
    .of_byte rfl rfl (fun _ => rfl) (fun _ => rfl) fun _ => rfl,
    .of_empty rfl rfl rfl rfl rfl,
    .of_empty rfl rfl rfl rfl rfl,
    .of_shotByte rfl rfl (fun _ _ => rfl) (fun _ _ => rfl) fun _ _ => rfl,
    .of_empty rfl rfl rfl rfl rfl,
    .of_empty rfl rfl rfl rfl rfl,
    .of_shotByte rfl rfl (fun _ _ => rfl) (fun _ _ => rfl) fun _ _ => rfl,
    .of_shotByte rfl rfl (fun _ _ => rfl) (fun _ _ => rfl) fun _ _ => rfl,
    .of_shotByte rfl rfl (fun _ _ => rfl) (fun _ _ => rfl) fun _ _ => rfl,
    extractDone_row p payload,
    .of_shotByte rfl rfl (fun _ _ => rfl) (fun _ _ => rfl) fun _ _ => rfl,
    settingsWrite_row p payload,
    recipeWrite_row p payload,
    .of_empty rfl rfl rfl rfl rfl,
    .of_empty rfl rfl rfl rfl rfl,
    runSet_row p payload,
    .of_empty rfl rfl rfl rfl rfl,
    .of_empty rfl rfl rfl rfl rfl,
    .of_empty rfl rfl rfl rfl rfl,
    .of_byte rfl rfl (fun _ => rfl) (fun _ => rfl) fun _ => rfl,
    .of_byte rfl rfl (fun _ => rfl) (fun _ => rfl) fun _ => rfl,
    .of_byte rfl rfl (fun _ => rfl) (fun _ => rfl) fun _ => rfl,
    .of_empty rfl rfl rfl rfl rfl,
    .of_shot rfl rfl (fun _ => rfl) (fun _ => rfl) fun _ => rfl,
    List.forall_mem_nil _⟩

/-- The kinds of the catalogue, in the order of its rows. -/
def catalogueKinds : List Byte :=
  [0x10#8, 0x11#8, 0x12#8, 0x13#8, 0x14#8, 0x15#8, 0x16#8, 0x17#8, 0x20#8, 0x21#8, 0x22#8, 0x23#8, 0x24#8, 0x25#8, 0x30#8,
   0x31#8, 0x32#8, 0x40#8, 0x41#8, 0x42#8, 0x43#8, 0x44#8, 0x45#8, 0x01#8, 0x02#8, 0x03#8, 0x04#8, 0x05#8, 0x06#8, 0x07#8]

theorem map_fst_catalogueRows (p : PortId) (payload : List Byte) :
    (catalogueRows p payload).map Prod.fst = catalogueKinds := rfl

theorem mem_catalogueKinds : ∀ kind : Byte, catalogue kind.toNat ≠ none → kind ∈ catalogueKinds := by decide +kernel

/-- A kind of the catalogue is that of one of its rows. -/
theorem mem_catalogueRows_of_catalogue (p : PortId) (payload : List Byte) {kind : Byte}
    (h : catalogue kind.toNat ≠ none) : ∃ e ∈ catalogueRows p payload, e.1 = kind :=
  List.mem_map.1 (map_fst_catalogueRows p payload ▸ mem_catalogueKinds kind h)

/-! ### The dispatch of a frame (R160) -/

section
variable {p : PortId} {kind : Byte} {payload : List Byte}

theorem decodeRequest_unknown (h : catalogue kind.toNat = none) : decodeRequest p kind payload = .error .unknownRequest := by
  simp only [decodeRequest, h]

theorem decodeRequest_refusedRole {sender : Sender} (hc : catalogue kind.toNat = some sender)
    (ha : sender.allows p = false) : decodeRequest p kind payload = .error .refusedRole := by
  simp [decodeRequest, hc, ha]

theorem decodeRequest_malformed {sender : Sender} (hc : catalogue kind.toNat = some sender)
    (ha : sender.allows p = true) (hr : requestOf p kind.toNat payload = none) :
    decodeRequest p kind payload = .error .malformed := by
  simp [decodeRequest, hc, ha, hr]

theorem decodeRequest_ok {sender : Sender} {i : Instr} (hc : catalogue kind.toNat = some sender)
    (ha : sender.allows p = true) (hr : requestOf p kind.toNat payload = some i) :
    decodeRequest p kind payload = .ok i := decodeRequest_ok_iff.2 ⟨sender, hc, ha, hr⟩

end

/-- What a decoder takes is the encoding of its request, on a port that may send it. -/
theorem encodes_of_decodeRequest {p : PortId} {kind : Byte} {payload : List Byte} {i : Instr}
    (h : decodeRequest p kind payload = .ok i) : i.sentOn p = true ∧ i.kindByte = some kind ∧ i.payload = payload := by
  obtain ⟨sender, hc, ha, hr⟩ := decodeRequest_ok_iff.1 h
  obtain ⟨e, he, rfl⟩ := mem_catalogueRows_of_catalogue p payload (by rw [hc]; exact Option.some_ne_none sender)
  obtain ⟨listed, read, kindByte, sent, carried⟩ := catalogueRows_hold p payload e he
  rw [hr, eq_comm, Option.ite_none_right_eq_some] at read
  obtain ⟨size, hi⟩ := read
  obtain rfl := Option.some.inj hi
  obtain rfl := Option.some.inj (listed.symm.trans hc)
  refine ⟨?_, kindByte, carried size⟩
  rw [sent]
  rcases (senderOf_allows_iff _ _).1 ha with hn | hs
  · simp [hn]
  · simp [hs]

/-! ### A request encoded and decoded -/

theorem read2_be2 {n : Nat} (h : n < 65536) : read2 (BitVec.ofNat 8 (n / 256)) (BitVec.ofNat 8 n) = n := wordAt_be2 h

theorem toNat_ofNat_byte {n : Nat} (h : n < 256) : (BitVec.ofNat 8 n).toNat = n := by
  rw [BitVec.toNat_ofNat, Nat.mod_eq_of_lt h]

theorem readByte_encoded (f : Nat → Instr) {a : Nat} (h : fits1 a = true) :
    readByte f [BitVec.ofNat 8 a] = some (f a) := by
  rw [readByte, toNat_ofNat_byte (of_decide_eq_true h)]

theorem readShot_encoded (f : Nat → Instr) {a : Nat} (h : fits2 a = true) : readShot f (be2 a) = some (f a) := by
  rw [be2, readShot, read2_be2 (of_decide_eq_true h)]

theorem readShotByte_encoded (f : Nat → Nat → Instr) {a b : Nat} (h : (fits2 a && fits1 b) = true) :
    readShotByte f (be2 a ++ [BitVec.ofNat 8 b]) = some (f a b) := by
  obtain ⟨ha, hb⟩ := Bool.and_eq_true_iff.1 h
  rw [be2, List.cons_append, List.cons_append, List.nil_append, readShotByte, read2_be2 (of_decide_eq_true ha),
    toNat_ofNat_byte (of_decide_eq_true hb)]

theorem readShotBytes_encoded (f : Nat → Nat → Nat → Instr) {a b c : Nat} (h : (fits2 a && fits1 b && fits1 c) = true) :
    readShotBytes f (be2 a ++ [BitVec.ofNat 8 b, BitVec.ofNat 8 c]) = some (f a b c) := by
  obtain ⟨hab, hc⟩ := Bool.and_eq_true_iff.1 h
  obtain ⟨ha, hb⟩ := Bool.and_eq_true_iff.1 hab
  rw [be2, List.cons_append, List.cons_append, List.nil_append, readShotBytes, read2_be2 (of_decide_eq_true ha),
    toNat_ofNat_byte (of_decide_eq_true hb), toNat_ofNat_byte (of_decide_eq_true hc)]

theorem readBytesQuantity_encoded (f : Nat → Nat → Nat → Instr) {a b c : Nat}
    (h : (fits1 a && fits1 b && fits2 c) = true) :
    readBytesQuantity f ([BitVec.ofNat 8 a, BitVec.ofNat 8 b] ++ be2 c) = some (f a b c) := by
  obtain ⟨hab, hc⟩ := Bool.and_eq_true_iff.1 h
  obtain ⟨ha, hb⟩ := Bool.and_eq_true_iff.1 hab
  rw [be2, List.cons_append, List.cons_append, List.nil_append, readBytesQuantity, read2_be2 (of_decide_eq_true hc),
    toNat_ofNat_byte (of_decide_eq_true ha), toNat_ofNat_byte (of_decide_eq_true hb)]

/-- A request is read back from its kind and its payload, on a port that may send it. -/
theorem decodeRequest_encoded {p : PortId} {i : Instr} (hw : i.wellFormed = true) (hs : i.sentOn p = true) :
    ∃ kind, i.kindByte = some kind ∧ decodeRequest p kind i.payload = .ok i := by
  have role : ∀ q, (p == q) = true → (Sender.only q).allows p = true := fun q h => by
    rw [eq_of_beq h]
    exact beq_self_eq_true q
  have port : ∀ q, (p == q) = true → q = p := fun q h => (eq_of_beq h).symm
  cases i with
  | openCycle shot recipe => exact ⟨_, rfl, decodeRequest_ok rfl (role _ hs) (readShotByte_encoded _ hw)⟩
  | abortCycle shot => exact ⟨_, rfl, decodeRequest_ok rfl (role _ hs) (readShot_encoded _ hw)⟩
  | closePermit shot => exact ⟨_, rfl, decodeRequest_ok rfl (role _ hs) (readShot_encoded _ hw)⟩
  | closed shot => exact ⟨_, rfl, decodeRequest_ok rfl (role _ hs) (readShot_encoded _ hw)⟩
  | opened shot => exact ⟨_, rfl, decodeRequest_ok rfl (role _ hs) (readShot_encoded _ hw)⟩
  | releaseQuery shot => exact ⟨_, rfl, decodeRequest_ok rfl (role _ hs) (readShot_encoded _ hw)⟩
  | heatOn recipe => exact ⟨_, rfl, decodeRequest_ok rfl (role _ hs) (readByte_encoded _ hw)⟩
  | weigh shot cavity => exact ⟨_, rfl, decodeRequest_ok rfl (role _ hs) (readShotByte_encoded _ hw)⟩
  | admitCharge shot cavity => exact ⟨_, rfl, decodeRequest_ok rfl (role _ hs) (readShotByte_encoded _ hw)⟩
  | admitOverride shot cavity => exact ⟨_, rfl, decodeRequest_ok rfl (role _ hs) (readShotByte_encoded _ hw)⟩
  | extractGrant shot cavity => exact ⟨_, rfl, decodeRequest_ok rfl (role _ hs) (readShotByte_encoded _ hw)⟩
  | clear shot cavity => exact ⟨_, rfl, decodeRequest_ok rfl (role _ hs) (readShotByte_encoded _ hw)⟩
  | extractDone shot cavity outcome => exact ⟨_, rfl, decodeRequest_ok rfl (role _ hs) (readShotBytes_encoded _ hw)⟩
  | runSet recipe mode quantity => exact ⟨_, rfl, decodeRequest_ok rfl (role _ hs) (readBytesQuantity_encoded _ hw)⟩
  | settingsWrite payload => exact ⟨_, rfl, decodeRequest_ok rfl (role _ hs) rfl⟩
  | recipeWrite payload => exact ⟨_, rfl, decodeRequest_ok rfl (role _ hs) (if_pos (of_decide_eq_true hw))⟩
  | heatOff => exact ⟨_, rfl, decodeRequest_ok rfl (role _ hs) rfl⟩
  | tare => exact ⟨_, rfl, decodeRequest_ok rfl (role _ hs) rfl⟩
  | weighCancel => exact ⟨_, rfl, decodeRequest_ok rfl (role _ hs) rfl⟩
  | weighResult => exact ⟨_, rfl, decodeRequest_ok rfl (role _ hs) rfl⟩
  | lockStore => exact ⟨_, rfl, decodeRequest_ok rfl (role _ hs) rfl⟩
  | unlockStore => exact ⟨_, rfl, decodeRequest_ok rfl (role _ hs) rfl⟩
  | cellClear => exact ⟨_, rfl, decodeRequest_ok rfl (role _ hs) rfl⟩
  | status q => obtain rfl := port q hs; exact ⟨_, rfl, decodeRequest_ok rfl rfl rfl⟩
  | poll q => obtain rfl := port q hs; exact ⟨_, rfl, decodeRequest_ok rfl rfl rfl⟩
  | settingsRead q => obtain rfl := port q hs; exact ⟨_, rfl, decodeRequest_ok rfl rfl rfl⟩
  | readback q item => obtain rfl := port q hs; exact ⟨_, rfl, decodeRequest_ok rfl rfl (readByte_encoded _ hw)⟩
  | recipeRead q slot => obtain rfl := port q hs; exact ⟨_, rfl, decodeRequest_ok rfl rfl (readByte_encoded _ hw)⟩
  | runQuery q recipe => obtain rfl := port q hs; exact ⟨_, rfl, decodeRequest_ok rfl rfl (readByte_encoded _ hw)⟩
  | cycleQuery q shot => obtain rfl := port q hs; exact ⟨_, rfl, decodeRequest_ok rfl rfl (readShot_encoded _ hw)⟩
  | _ => exact absurd hs Bool.false_ne_true

end Sys2Proof.Machine
end

section
open Sys2Proof Sys2Proof.Machine

/-- Settles O18: request by request, from the six shapes of a payload. -/
theorem requestsDecodeToThemselves : Obligations.RequestsDecodeToThemselves := fun _ _ => decodeRequest_encoded

/-- Settles O20: the catalogue row by row, and the three refusals. -/
theorem refusedFrameChangesNothingElse : Obligations.RefusedFrameChangesNothingElse := by
  refine ⟨fun p kind payload => ⟨fun unlisted => ?_, fun role size i mem => ?_, fun i => encodes_of_decodeRequest⟩,
    fun p kind payload s short hunting free code refused => ?_⟩
  · refine decodeRequest_unknown (by_contra fun h => ?_)
    obtain ⟨e, he, hk⟩ := mem_catalogueRows_of_catalogue p payload h
    exact unlisted e he hk
  · obtain ⟨listed, read, -, -, -⟩ := catalogueRows_hold p payload _ mem
    have allows := senderOf_allows_iff role p
    refine ⟨fun hn hp => ?_, fun ha => ⟨fun hn hl => ?_, fun hl => ?_⟩⟩
    · exact decodeRequest_refusedRole listed (Bool.eq_false_iff.2 fun h => (allows.1 h).elim hn hp)
    · exact decodeRequest_malformed listed (allows.2 ha) (read.trans (if_neg (not_or.2 ⟨hn, hl⟩)))
    · exact decodeRequest_ok listed (allows.2 ha) (read.trans (if_pos hl))
  · have refusal : ∃ e, decodeRequest p kind payload = .error e ∧ code = frameRefusalCode e := by
      rcases refused with ⟨hc, rfl⟩ | ⟨sender, hc, ha, rfl⟩ | ⟨sender, hc, ha, hr, rfl⟩ | ⟨hd, rfl⟩ | ⟨hd, rfl⟩ | ⟨hd, rfl⟩
      · exact ⟨_, decodeRequest_unknown hc, rfl⟩
      · exact ⟨_, decodeRequest_refusedRole hc ha, rfl⟩
      · exact ⟨_, decodeRequest_malformed hc ha hr, rfl⟩
      · exact ⟨_, hd, rfl⟩
      · exact ⟨_, hd, rfl⟩
      · exact ⟨_, hd, rfl⟩
    obtain ⟨e, he, rfl⟩ := refusal
    have dispatch : dispatchFrame p kind payload s = (s, .plain (frameRefusalCode e)) := by
      simp only [dispatchFrame, he]
    refine congrArg Host.Outcome.next ((State.receive_frameBytes hunting kind short).trans ?_)
    rw [State.offerFrame_of_free free, dispatch]
    rfl

end

section
/-! The frame of a request acts as the request: no block writes the reply field, which is that of the request's own row
(log 6). -/

namespace Sys2Proof.Machine

/-! ### What the blocks do leaves the reply field alone -/

/-- A loop of steps that leave the reply field alone leaves it alone. -/
theorem foldl_reply {α : Type} {f : State → α → State} (h : ∀ t a, (f t a).reply = t.reply) (l : List α) (s : State) :
    (l.foldl f s).reply = s.reply := by
  induction l generalizing s with
  | nil => rfl
  | cons a l ih => rw [List.foldl_cons, ih, h]

section
variable (s : State)

@[simp] theorem State.freeRow_reply (i : Fin 8) : (s.freeRow i).reply = s.reply := by
  rw [State.freeRow_eq]
  rfl

@[simp] theorem State.tryFree_reply (i : Fin 8) : (s.tryFree i).reply = s.reply := by
  unfold State.tryFree
  split <;> simp

@[simp] theorem State.tryRelease_reply (i : Fin 8) : (s.tryRelease i).reply = s.reply := by
  unfold State.tryRelease
  split <;> simp

@[simp] theorem State.releaseReserved_reply (recipe : Option (Fin 8)) (n : Nat) :
    (s.releaseReserved recipe n).reply = s.reply := by cases recipe <;> rfl

@[simp] theorem State.enterPlaten_reply (p : PlatenState) (recipe : Option (Fin 8)) :
    (s.enterPlaten p recipe).reply = s.reply := by rw [State.enterPlaten_eq]

@[simp] theorem State.tableEmptied_reply : s.tableEmptied.reply = s.reply := by rw [State.tableEmptied_eq]

@[simp] theorem State.warmFor_reply (k : Fin 8) : (s.warmFor k).reply = s.reply := by
  unfold State.warmFor
  split <;> simp

@[simp] theorem State.enterOff_reply : s.enterOff.reply = s.reply := s.enterPlaten_reply .off none

@[simp] theorem State.idleExpire_reply : s.idleExpire.reply = s.reply := by
  unfold State.idleExpire
  dsimp only
  split <;> simp

@[simp] theorem State.endRun_reply (e : RunEnd) : (s.endRun e).reply = s.reply := by
  unfold State.endRun
  split
  · rfl
  · split <;> rfl

@[simp] theorem State.enterRing_reply (r : PartRecord) : (s.enterRing r).reply = s.reply := by rw [State.enterRing_eq]

@[simp] theorem State.placeRecord_reply (i j : Fin 8) (r : PartRecord) : (s.placeRecord i j r).reply = s.reply := by
  unfold State.placeRecord
  split <;> simp

@[simp] theorem State.accountRun_reply (recipe : Option (Fin 8)) (v : Verdict) :
    (s.accountRun recipe v).reply = s.reply := by
  cases recipe with
  | none => rfl
  | some k =>
    dsimp only [State.accountRun]
    split <;> simp

@[simp] theorem State.recordDue_reply (i j : Fin 8) (outcome : ToolOutcome) :
    (s.recordDue i j outcome).reply = s.reply := by simp [State.recordDue]

@[simp] theorem State.recordQueued_reply (i j : Fin 8) : (s.recordQueued i j).reply = s.reply := by
  unfold State.recordQueued
  split <;> simp

@[simp] theorem State.lowerUncleared_reply : s.lowerUncleared.reply = s.reply := by rw [State.lowerUncleared_eq]

@[simp] theorem State.clearCavity_reply (i j : Fin 8) : (s.clearCavity i j).reply = s.reply := by simp [State.clearCavity]

@[simp] theorem State.endGrant_reply (i j : Fin 8) : (s.endGrant i j).reply = s.reply := by
  unfold State.endGrant
  split <;> simp

@[simp] theorem State.extract_reply (i j : Fin 8) (outcome : ToolOutcome) : (s.extract i j outcome).reply = s.reply := by
  unfold State.extract
  dsimp only
  split <;> simp

@[simp] theorem State.closeRow_reply (i : Fin 8) : (s.closeRow i).reply = s.reply := by simp [State.closeRow]

@[simp] theorem State.openPress_reply (i : Fin 8) : (s.openPress i).reply = s.reply := by simp [State.openPress]

/-! ### CELL_CLEAR -/

theorem State.flushQueue_reply : s.flushQueue.reply = s.reply :=
  foldl_reply (f := fun (t : State) (p : Fin 8 × Fin 8) => t.recordQueued p.1 p.2)
    (fun t p => t.recordQueued_reply p.1 p.2) s.recordQueue
    { s with recordQueue := [] }

theorem State.clearDue_reply (i j : Fin 8) : (State.clearDue i s j).reply = s.reply := by
  unfold State.clearDue
  split <;> simp

theorem State.clearAllDue_reply : s.clearAllDue.reply = s.reply :=
  foldl_reply (fun t i => foldl_reply (State.clearDue_reply · i) _ t) _ _

theorem State.releaseUnmoulded_reply : s.releaseUnmoulded.reply = s.reply :=
  foldl_reply (fun t i => by split <;> simp) _ _

theorem State.cellEmptied_reply : s.cellEmptied.reply = s.reply := by
  change ({ s with rows := s.rows.map (Row.forceCleared s.clock) } :
    State).flushQueue.clearAllDue.releaseUnmoulded.reply = s.reply
  rw [State.releaseUnmoulded_reply, State.clearAllDue_reply, State.flushQueue_reply]

theorem State.clearCell_reply : s.clearCell.reply = s.reply := by
  rw [State.clearCell_eq, State.endCleared_eq]
  exact s.cellEmptied_reply

end

/-! ### The requests -/

/-- A request taken by its block leaves the reply field alone. -/
def KeepsReply (s : State) (t : State × Reply) : Prop := t.1.reply = s.reply

theorem KeepsReply.ite {s : State} {a b : State × Reply} {c : Prop} [Decidable c] (ha : KeepsReply s a)
    (hb : KeepsReply s b) : KeepsReply s (if c then a else b) := by
  split
  · exact ha
  · exact hb

section
variable (s : State)

theorem State.onShot_keepsReply (shot : Nat) {k : Fin 8 → State × Reply} (h : ∀ i, KeepsReply s (k i)) :
    KeepsReply s (s.onShot shot k) := by
  refine .ite ?_ rfl
  cases s.findShot shot with
  | none => rfl
  | some i => exact h i

theorem State.onCavity_keepsReply (shot cavity : Nat) {k : Fin 8 → Fin 8 → State × Reply}
    (h : ∀ i j, KeepsReply s (k i j)) : KeepsReply s (s.onCavity shot cavity k) := by
  unfold State.onCavity
  split
  · exact s.onShot_keepsReply shot fun i => h i _
  · rfl

theorem State.onAdmission_keepsReply (shot cavity : Nat) {k : Fin 8 → Fin 8 → WeighResult → State × Reply}
    (h : ∀ i j r, KeepsReply s (k i j r)) : KeepsReply s (s.onAdmission shot cavity k) := by
  refine s.onCavity_keepsReply shot cavity fun i j => ?_
  cases s.weigh.result with
  | none => rfl
  | some r => exact .ite rfl (.ite rfl (.ite rfl (.ite rfl (h i j r))))

theorem State.openRow_keepsReply (i k : Fin 8) (shot : Nat) : KeepsReply s (s.openRow i k shot) := by
  simp [KeepsReply, State.openRow]

theorem takeOpenCycle_keepsReply (shot recipe : Nat) : KeepsReply s (takeOpenCycle shot recipe s) := by
  unfold takeOpenCycle
  split
  · refine .ite rfl (.ite rfl (.ite rfl (.ite rfl (.ite rfl ?_))))
    split
    · rfl
    · exact .ite rfl (s.openRow_keepsReply _ _ shot)
  · rfl

theorem takeAbortCycle_keepsReply (shot : Nat) : KeepsReply s (takeAbortCycle shot s) :=
  s.onShot_keepsReply shot fun i => .ite (by simp [KeepsReply]) rfl

theorem takeClosePermit_keepsReply (shot : Nat) : KeepsReply s (takeClosePermit shot s) :=
  s.onShot_keepsReply shot fun i => by cases s.closeDenied i <;> rfl

theorem takeClosed_keepsReply (shot : Nat) : KeepsReply s (takeClosed shot s) := by
  refine .ite ?_ rfl
  cases s.findShot shot with
  | none => rfl
  | some i => exact .ite rfl (.ite rfl (s.closeRow_reply i))

theorem takeOpened_keepsReply (shot : Nat) : KeepsReply s (takeOpened shot s) := by
  refine .ite ?_ rfl
  cases s.findShot shot with
  | none => rfl
  | some i => exact .ite (s.openPress_reply i) rfl

theorem takeHeatOn_keepsReply (recipe : Nat) : KeepsReply s (takeHeatOn recipe s) := by
  unfold takeHeatOn
  split
  · rfl
  · refine .ite rfl (.ite rfl (.ite rfl ?_))
    simp [KeepsReply, State.heatTo_eq_warmFor]

theorem takeTare_keepsReply : KeepsReply s (takeTare s) := by
  unfold takeTare
  split <;> rfl

theorem State.reportOn_keepsReply (i j : Fin 8) (outcome : ToolOutcome) : KeepsReply s (s.reportOn i j outcome) := by
  unfold State.reportOn
  split
  iterate 4 rfl
  · exact s.extract_reply i j outcome
  · exact s.extract_reply i j outcome
  · show (if outcome = .removed then s.clearCavity i j else s).reply = s.reply
    split <;> simp

theorem takeExtractDone_keepsReply (shot cavity outcome : Nat) : KeepsReply s (takeExtractDone shot cavity outcome s) := by
  unfold takeExtractDone
  split
  · split
    · rfl
    · exact .ite rfl (s.reportOn_keepsReply _ _ _)
  · rfl

theorem State.writeSettings_reply (es : List (Nat × List Byte)) : (s.writeSettings es).reply = s.reply := by
  unfold State.writeSettings
  dsimp only
  split <;> simp

theorem takeSettingsWrite_keepsReply (payload : List Byte) : KeepsReply s (takeSettingsWrite payload s) := by
  unfold takeSettingsWrite
  split
  · rfl
  · exact s.writeSettings_reply _

theorem takeRecipeWrite_keepsReply (payload : List Byte) : KeepsReply s (takeRecipeWrite payload s) := by
  unfold takeRecipeWrite
  split
  · rfl
  · split
    · rfl
    · refine .ite rfl (.ite rfl (.ite rfl (.ite rfl ?_)))
      split <;> rfl

theorem takeRunSet_keepsReply (recipe mode quantity : Nat) : KeepsReply s (takeRunSet recipe mode quantity s) := by
  unfold takeRunSet
  split
  · exact .ite rfl rfl
  · rfl

theorem takeRecipeRead_keepsReply (p : PortId) (slot : Nat) : KeepsReply s (takeRecipeRead p slot s) := by
  unfold takeRecipeRead
  split
  · rfl
  · exact .ite rfl rfl

theorem takeRunQuery_keepsReply (recipe : Nat) : KeepsReply s (takeRunQuery recipe s) := by
  unfold takeRunQuery
  split <;> rfl

/-- No block writes the reply field (log 6). -/
theorem takeRequest_keepsReply (i : Instr) : KeepsReply s (takeRequest i s) := by
  cases i with
  | openCycle shot recipe => exact takeOpenCycle_keepsReply s shot recipe
  | abortCycle shot => exact takeAbortCycle_keepsReply s shot
  | closePermit shot => exact takeClosePermit_keepsReply s shot
  | closed shot => exact takeClosed_keepsReply s shot
  | opened shot => exact takeOpened_keepsReply s shot
  | releaseQuery shot => exact s.onShot_keepsReply shot fun _ => rfl
  | heatOn recipe => exact takeHeatOn_keepsReply s recipe
  | heatOff => exact .ite rfl (.ite rfl s.enterOff_reply)
  | tare => exact takeTare_keepsReply s
  | weigh shot cavity =>
    exact s.onCavity_keepsReply shot cavity fun _ _ => .ite rfl (.ite rfl (.ite rfl (.ite rfl (.ite rfl (.ite rfl rfl)))))
  | weighCancel => exact .ite (s.endRun_reply .cancelled) rfl
  | admitCharge shot cavity => exact s.onAdmission_keepsReply shot cavity fun _ _ _ => .ite rfl rfl
  | admitOverride shot cavity =>
    exact s.onAdmission_keepsReply shot cavity fun _ _ _ => .ite rfl (.ite (.ite rfl rfl) rfl)
  | extractGrant shot cavity =>
    exact s.onCavity_keepsReply shot cavity fun _ _ => .ite rfl (.ite rfl (.ite rfl rfl))
  | extractDone shot cavity outcome => exact takeExtractDone_keepsReply s shot cavity outcome
  | clear shot cavity => exact s.onCavity_keepsReply shot cavity fun i j => .ite (s.clearCavity_reply i j) rfl
  | settingsWrite payload => exact takeSettingsWrite_keepsReply s payload
  | recipeWrite payload => exact takeRecipeWrite_keepsReply s payload
  | unlockStore => exact .ite rfl rfl
  | runSet recipe mode quantity => exact takeRunSet_keepsReply s recipe mode quantity
  | cellClear => exact .ite rfl s.clearCell_reply
  | readback _ item => exact .ite (.ite rfl rfl) rfl
  | recipeRead p slot => exact takeRecipeRead_keepsReply s p slot
  | runQuery _ recipe => exact takeRunQuery_keepsReply s recipe
  | cycleQuery _ shot => exact .ite rfl (s.onShot_keepsReply shot fun _ => rfl)
  | _ => rfl

end

/-! ### A request and its frame -/

/-- A well-formed command has a payload that a frame can carry. -/
theorem length_payload_le {i : Instr} (h : i.wellFormed = true) : i.payload.length ≤ 254 := by
  cases i with
  | settingsWrite payload => exact (Laws.Catalogue.settingsWrite payload).2 h
  | recipeWrite payload => exact (Laws.Catalogue.recipeWrite payload).2 h
  | _ => simp [Instr.payload, be2]

/-- A request that a port may send is answered on that port, as its block takes it. -/
theorem exec_of_sentOn {p : PortId} {i : Instr} (h : i.sentOn p = true) (s : State) :
    exec i s = respond p (takeRequest i s) := by
  cases i
  all_goals first
    | exact absurd h Bool.false_ne_true
    | (obtain rfl := eq_of_beq h; rfl)

end Sys2Proof.Machine
end

section
open Sys2Proof Sys2Proof.Machine

/-- Settles O19: the frame decodes to its request, which its block takes; the reply field is left alone. -/
theorem requestFrameActsAsItsRow : Obligations.RequestFrameActsAsItsRow := by
  intro p i kind s wellFormed sent hkind hunting free
  obtain ⟨kind', hk, decoded⟩ := decodeRequest_encoded wellFormed sent
  obtain rfl : kind = kind' := Option.some.inj (hkind.symm.trans hk)
  have short := length_payload_le wellFormed
  refine ⟨(takeRequest i s).1, (takeRequest i s).2, takeRequest_keepsReply s i, exec_of_sentOn sent s, ?_⟩
  refine congrArg Host.Outcome.next ((State.receive_frameBytes hunting kind short).trans ?_)
  have dispatch : dispatchFrame p kind i.payload s = takeRequest i s := by simp only [dispatchFrame, decoded]
  rw [State.offerFrame_of_free free, dispatch]
  rfl

end

section
/-! The queries that only reply: STATUS, SETTINGS_READ, RECIPE_READ, RUN_QUERY and WEIGH_RESULT (R96, R153, R155, R161,
R166, R169). -/

namespace Sys2Proof.Machine

/-! ### Groups that may be absent (R161) -/

theorem optFields_word (x : Option Nat) :
    optFields x 0 (fun n => [.word n]) = [.flag x.isSome, .word (x.getD 0)] := by cases x <;> rfl

theorem slotFields_eq (k : Option (Fin 8)) : slotFields k = [.flag k.isSome, .byte ((k.map Fin.val).getD 0)] := by
  cases k <;> rfl

theorem Zone.statusFields_eq (z : Zone) : z.statusFields =
    [.byte z.sensor.code, .flag z.reading.isSome, .signed (z.reading.getD 0), .word z.setpoint, .byte z.duty,
      .byte z.shortfall, .word z.totalShortfall] := by
  rw [Zone.statusFields]
  cases z.reading <;> rfl

theorem idleFields_eq (timer : Option Clock) (now : Clock) :
    optFields (timer.map fun t => elapsed now t / 1000) 0 (fun n => [.long n]) =
      [.flag timer.isSome, .long (timer.elim 0 fun start => elapsed now start / 1000)] := by cases timer <;> rfl

theorem grantFields_eq (grant : Option Grant) :
    optFields (grant.map fun g => (g.shot, g.cavity.val)) (0, 0) (fun g => [.word g.1, .byte g.2]) =
      [.flag grant.isSome, .word (grant.elim 0 Grant.shot), .byte (grant.elim 0 fun g => g.cavity.val)] := by
  cases grant <;> rfl

theorem WeighUnit.runCode_eq (w : WeighUnit) : w.runCode = w.run.elim 0 fun run => if run.ticket = none then 1 else 2 := by
  rw [WeighUnit.runCode]
  cases w.run with
  | none => rfl
  | some run => cases h : run.ticket <;> simp [h]

/-! ### STATUS (R166) -/

theorem State.freeCount_eq (s : State) : 8 - s.liveCount = (List.finRange 8).countP fun m => (s.row m).state = .free := by
  rw [State.liveCount_eq, State.liveRows]
  have count := List.length_eq_countP_add_countP (fun m => decide ((s.row m).state = .free)) (l := List.finRange 8)
  have live : (List.finRange 8).countP (fun m => decide ¬decide ((s.row m).state = .free) = true) =
      (List.finRange 8).countP fun m => (s.row m).state != .free := List.countP_congr fun m _ => by simp
  rw [List.length_finRange, live] at count
  omega

theorem byteFields_bytes (l : List Nat) : (byteFields l).flatMap ReplyField.bytes = l.map (BitVec.ofNat 8) := by
  rw [byteFields, List.flatMap_map, List.map_eq_flatMap]
  rfl

/-- The values of STATUS in the order of R166's table. -/
theorem State.statusFields_eq (s : State) :
    s.statusFields = List.flatten
      [[.long s.clock.toNat, .flag s.pins.mainsHold, .flag s.pins.strap],
        [.byte ((List.finRange 8).countP fun m => (s.row m).state = .free)], slotFields s.runningRecipe,
        [.byte s.regulator.platen.code], slotFields s.regulator.platenRecipe, [.byte s.regulator.dwell],
        [.flag s.regulator.idleTimer.isSome,
          .long (s.regulator.idleTimer.elim 0 fun start => elapsed s.clock start / 1000),
          .word s.regulator.sampleErrors],
        (List.finRange 12).flatMap fun z => (s.regulator.zones.get z).statusFields,
        [.word s.firing.cellShortfall, .byte s.firing.limit],
        [.byte (s.weigh.run.elim 0 fun run => if run.ticket = none then 1 else 2), .flag s.weigh.tare.isSome],
        [.byte s.extraction.inputs.combination],
        [.flag s.extraction.grant.isSome, .word (s.extraction.grant.elim 0 Grant.shot),
          .byte (s.extraction.grant.elim 0 fun g => g.cavity.val), .byte s.extraction.uncleared],
        [.byte s.recordQueue.length, .byte s.ring.length],
        [.byte s.streamer.readback.length, .flag s.pins.readyLine, .flag s.streamer.stream.isSome],
        [.byte s.store.lock.code], slotFields (s.store.write.map WriteInFlight.slot),
        (List.finRange 8).map fun k => .byte (s.store.slots.get k).validity.code,
        s.ports.press.statusFields, s.ports.charge.statusFields, s.ports.extract.statusFields,
        s.ports.records.statusFields] := by
  rw [State.statusFields, s.freeCount_eq, idleFields_eq, s.weigh.runCode_eq, grantFields_eq]
  simp only [byteFields, Vec.toList_eq, List.map_map, List.flatMap_map, List.flatten_cons, List.flatten_nil,
    List.cons_append, List.nil_append, Function.comp_def]

theorem length_flatMap_const {α β : Type} {f : α → List β} {n : Nat} (h : ∀ a, (f a).length = n) (l : List α) :
    (l.flatMap f).length = l.length * n := by
  simp [List.length_flatMap, h]

theorem Zone.statusFields_length (z : Zone) : (z.statusFields.flatMap ReplyField.bytes).length = 10 := by
  rw [Zone.statusFields_eq]
  rfl

theorem slotFields_length (k : Option (Fin 8)) : ((slotFields k).flatMap ReplyField.bytes).length = 2 := by
  rw [slotFields_eq]
  rfl

theorem Port.statusFields_length (q : Port) : (q.statusFields.flatMap ReplyField.bytes).length = 4 := rfl

theorem State.statusFields_length (s : State) : (s.statusFields.flatMap ReplyField.bytes).length = 183 := by
  have zones := length_flatMap_const (fun z => (s.regulator.zones.get z).statusFields_length) (List.finRange 12)
  have slots := length_flatMap_const (n := 1)
    (fun k => show (ReplyField.byte (s.store.slots.get k).validity.code).bytes.length = 1 from rfl) (List.finRange 8)
  rw [s.statusFields_eq]
  simp only [List.flatten_cons, List.flatten_nil, List.flatMap_append, List.length_append, List.flatMap_assoc,
    List.flatMap_map, slotFields_length, Port.statusFields_length, zones, slots]
  simp [ReplyField.bytes, be2, be4]

/-- SETTINGS_READ carries the 20 fields in their order and sizes (R169). -/
theorem Settings.fields_bytes (c : Settings) :
    c.fields.flatMap ReplyField.bytes = (List.range 20).flatMap fun f => c.value (f + 1) := by
  have range : List.range 20 = [0, 1, 2, 3, 4, 5, 6, 7, 8, 9, 10, 11, 12, 13, 14, 15, 16, 17, 18, 19] := rfl
  rw [range, Settings.fields]
  simp [List.flatMap_append, byteFields_bytes, wordFields, ReplyField.bytes, Settings.value]

/-! ### RECIPE_READ and RUN_QUERY (R153, R155) -/

theorem exec_recipeRead (p : PortId) (slot : Nat) (s : State) :
    exec (.recipeRead p slot) s = respond p (takeRecipeRead p slot s) := rfl

theorem takeRecipeRead_of_range {slot : Nat} (h : 7 < slot) (p : PortId) (s : State) :
    takeRecipeRead p slot s = (s, .plain .malformed) := by
  simp only [takeRecipeRead, index8_eq_none h]

theorem takeRunQuery_of_range {slot : Nat} (h : 7 < slot) (s : State) :
    takeRunQuery slot s = (s, .plain .malformed) := by
  simp only [takeRunQuery, index8_eq_none h]

theorem takeRecipeRead_eq (p : PortId) (k : Fin 8) (s : State) : takeRecipeRead p k.val s =
    if s.store.write.map WriteInFlight.slot = some k then (s, .plain .busy)
    else (s, ⟨.done, s.recipeReadFields p k⟩) := by
  simp only [takeRecipeRead, index8_val, State.writingTo_iff]

section
variable (s : State) {p : PortId} {k : Fin 8}

theorem State.recipeReadFields_of_invalid (p : PortId) (invalid : (s.store.slots.get k).validity ≠ .valid) :
    s.recipeReadFields p k = [.byte k.val, .byte (s.store.slots.get k).validity.code, .byte 0] := if_pos invalid

theorem State.recipeReadFields_full (valid : (s.store.slots.get k).validity = .valid)
    (full : p = .records ∨ s.store.lock = .unlocked) : s.recipeReadFields p k =
      [.byte k.val, .byte (s.store.slots.get k).validity.code, .byte 1] ++ (s.recipeAt k).fields :=
  (if_neg (not_not.2 valid)).trans (if_pos full)

theorem State.recipeReadFields_summary (valid : (s.store.slots.get k).validity = .valid) (other : p ≠ .records)
    (locked : s.store.lock = .locked) : s.recipeReadFields p k =
      [.byte k.val, .byte (s.store.slots.get k).validity.code, .byte 0] ++ [.word (s.recipeAt k).number,
        .raw (s.recipeAt k).name.toList, .byte ((List.finRange 8).countP fun j => (s.recipeAt k).enabled.get j)] := by
  have summary : ¬(p = .records ∨ s.store.lock = .unlocked) := by simp [other, locked]
  have count : (s.recipeAt k).enabledCount = (List.finRange 8).countP fun j => (s.recipeAt k).enabled.get j :=
    Vec.count_eq _ _
  rw [← count]
  exact (if_neg (not_not.2 valid)).trans (if_neg summary)

end

/-- With no write in flight to the slot, RECIPE_READ answers the slot's values. -/
theorem exec_recipeRead_of_idle {s : State} (p : PortId) {k : Fin 8}
    (idle : s.store.write.map WriteInFlight.slot ≠ some k) {fields : List ReplyField}
    (h : s.recipeReadFields p k = fields) :
    exec (.recipeRead p k.val) s = .next { s with reply := some (p, ⟨.done, fields⟩) } := by
  rw [exec_recipeRead, takeRecipeRead_eq, if_neg idle, h]
  rfl

theorem takeRunQuery_eq (k : Fin 8) (s : State) : takeRunQuery k.val s = (s, ⟨.done, (s.runs.get k).fields⟩) := by
  simp only [takeRunQuery, index8_val]

theorem RunEntry.fields_eq (e : RunEntry) : e.fields = [.byte e.mode.code, .word e.remaining, .byte e.reserved,
    .flag (decide (e.mode = .counted)), .word (if e.mode = .counted then e.remaining - e.reserved else 0)] := by
  rw [RunEntry.fields, optFields_word]
  by_cases h : e.mode = .counted <;> simp [h]

/-! ### WEIGH_RESULT (R96) -/

theorem WeighResult.fields_eq (r : WeighResult) : r.fields = [.word r.shot, .byte r.cavity.val,
    .flag r.gross.isSome, .word (r.gross.getD 0), .flag r.net.isSome, .word (r.net.getD 0), .byte r.cls.code,
    .byte r.attempt, .word r.samples, .long r.time.toNat, .flag r.admitted, .flag r.orphaned] := by
  simp [WeighResult.fields, optFields_word]

/-- What runs in the weigh unit, with the shot and the cavity of a weighing. -/
def WeighUnit.runFields (w : WeighUnit) : List ReplyField :=
  match w.run with
  | none => [.byte 0, .flag false, .word 0, .byte 0]
  | some run =>
    match run.ticket with
    | none => [.byte 1, .flag false, .word 0, .byte 0]
    | some t => [.byte 2, .flag true, .word t.shot, .byte t.cavity.val]

theorem WeighUnit.runFields_eq (w : WeighUnit) : .byte w.runCode ::
    optFields (w.run.bind SettleRun.ticket |>.map fun t => (t.shot, t.cavity.val)) (0, 0)
      (fun t => [.word t.1, .byte t.2]) = w.runFields := by
  rw [WeighUnit.runCode, WeighUnit.runFields]
  cases w.run with
  | none => rfl
  | some run => cases h : run.ticket <;> simp [h, optFields, ReplyField.zeroed]

theorem takeWeighResult_eq (s : State) : takeWeighResult s = (s, ⟨.done,
    optFields s.weigh.result WeighResult.shape WeighResult.fields ++ s.weigh.runFields ++
      [.flag s.weigh.tare.isSome, .word (s.weigh.tare.getD 0)] ++
      optFields s.weigh.tareOutcome (.tared, none)
        fun t => .byte t.1.code :: optFields t.2 0 fun n => [.word n]⟩) := by
  rw [← WeighUnit.runFields_eq, ← optFields_word]
  simp [takeWeighResult]

end Sys2Proof.Machine
end

section
open Sys2Proof Sys2Proof.Machine

/-- Settles O60: the sizes and codes, then query by query. -/
theorem queriesOnlyReply : Obligations.QueriesOnlyReply := by
  refine ⟨fun n => ⟨rfl, rfl, ?_, fun z => rfl⟩, ⟨rfl, rfl, fun l => rfl⟩,
    ⟨rfl, rfl, rfl, rfl, rfl, rfl, rfl, rfl, rfl, rfl, rfl, rfl⟩, ⟨rfl, rfl, rfl, rfl, rfl, rfl⟩, fun s p =>
    ⟨⟨rfl, s.statusFields_length⟩, ⟨slotFields s.runningRecipe, fun h => ?_, fun table m k live hk => ?_, ?_⟩,
      ⟨_, rfl, s.settings.fields_bytes⟩, fun slot h => ⟨?_, ?_⟩, fun k => ⟨?_, ?_, ?_⟩, ?_⟩⟩
  · have quotient : n / 65536 / 256 = n / 16777216 := Nat.div_div_eq_div_mul n 65536 256
    change be4 n = be2 (n / 65536) ++ be2 n
    rw [be2, quotient]
    rfl
  · rw [State.runningRecipe_of_free h]
    rfl
  · rw [State.runningRecipe_of_live table live, hk]
    rfl
  · rw [s.statusFields_eq]
    simp only [slotFields_eq, Zone.statusFields_eq]
    rfl
  · exact respond_plain (takeRecipeRead_of_range h p s)
  · exact respond_plain (takeRunQuery_of_range h s)
  · intro busy
    exact respond_plain ((takeRecipeRead_eq p k s).trans (if_pos busy))
  · intro idle
    exact ⟨fun invalid => exec_recipeRead_of_idle p idle (s.recipeReadFields_of_invalid p invalid),
      fun valid full => exec_recipeRead_of_idle p idle (s.recipeReadFields_full valid full),
      fun valid other locked => exec_recipeRead_of_idle p idle (s.recipeReadFields_summary valid other locked)⟩
  · have take := takeRunQuery_eq k s
    rw [RunEntry.fields_eq] at take
    exact congrArg (respond p) take
  · refine ⟨optFields s.weigh.result WeighResult.shape WeighResult.fields, s.weigh.runFields,
      [.flag s.weigh.tare.isSome, .word (s.weigh.tare.getD 0)],
      optFields s.weigh.tareOutcome (.tared, none)
        (fun t => .byte t.1.code :: optFields t.2 0 fun n => [.word n]), ?_, fun r hr => ?_, fun hr => ?_, fun hr => ?_,
      fun run hr ht => ?_, fun run t hr ht => ?_, rfl, fun ho => ?_, fun o v ho => ?_⟩
    · exact congrArg (respond .charge) (takeWeighResult_eq s)
    · rw [hr, optFields, WeighResult.fields_eq]
    · rw [hr]
      rfl
    · simp only [WeighUnit.runFields, hr]
    · simp only [WeighUnit.runFields, hr, ht]
    · simp only [WeighUnit.runFields, hr, ht]
    · rw [ho]
      rfl
    · rw [ho, optFields, optFields_word]

end
